-- ==== Sys2Proof/Word.lean ====
section
/-! DEFINITION. The word types of the block (spec/00_scope.md rules R4 to R6). -/

namespace Sys2Proof

/-- A byte or a character: 8 bits (R6). -/
abbrev Byte := BitVec 8

/-- `XLEN_HOST`: the width of every host register access, of the codes and of the configuration (R4). -/
abbrev Word := BitVec 32

/-- `CTR_W`: the width of the counter, the offset and the time (R4). -/
abbrev DWord := BitVec 64

/-- `DIGEST_LEN`: the HMAC-SHA1 output, twenty bytes `DIGEST[0..20)` (R4, R10). -/
abbrev Digest := Vector Byte 20

end Sys2Proof
end

