-- ==== Sys2Proof/Syntax.lean ====
section
/-! DEFINITION. The nine commands, the block's instruction set (spec/30_encoding.md rules R60 to R63). -/

namespace Sys2Proof

/-- The commands, one constructor per row of spec/opcode_table.json. Only `PUTC` carries an operand in its word (R61). -/
inductive Instr where
  /-- `NOP`, R70. -/
  | nop
  /-- `CLRT`, R71. -/
  | clrt
  /-- `PUTC imm8`, R72: every value of the 8-bit immediate is legal (R62). -/
  | putc (imm8 : Byte)
  /-- `CONSTRUCT`, R78. -/
  | construct
  /-- `ZEROIZE`, R79. -/
  | zeroize
  /-- `HOTP`, R114. -/
  | hotp
  /-- `CTRGEN`, R122. -/
  | ctrgen
  /-- `TOTP`, R123. -/
  | totp
  /-- `TOTPO`, R124. -/
  | totpo
deriving DecidableEq, Repr

/-- The command's name in the opcode table (R63). -/
def Instr.mnemonic : Instr → String
  | .nop => "NOP"
  | .clrt => "CLRT"
  | .putc _ => "PUTC"
  | .construct => "CONSTRUCT"
  | .zeroize => "ZEROIZE"
  | .hotp => "HOTP"
  | .ctrgen => "CTRGEN"
  | .totp => "TOTP"
  | .totpo => "TOTPO"

end Sys2Proof
end

