-- ==== Sys2Proof/WellFormed.lean ====
section
/-! DEFINITION. Which terms stand for something the port can carry: instructions (spec/30_encoding.md rules R60, R62) and
the offsets of port accesses (spec/20_memory.md rules R40, R45). The third check, on the parameter `TMAX` (R4), is
`legalTMAX` in Sys2Proof/Config.lean, because `Params` carries its proof. -/

namespace Sys2Proof

/-- Every instruction term is well formed: the one operand, `imm8` of `PUTC`, has its eight bits by type and R62 makes
every value of it legal. The check is kept, constructor by constructor, so that an operand added later is not missed. -/
def Instr.wellFormed : Instr → Bool
  | .nop => true
  | .clrt => true
  | .putc imm8 => decide (imm8.toNat < 256)
  | .construct => true
  | .zeroize => true
  | .hotp => true
  | .ctrgen => true
  | .totp => true
  | .totpo => true

/-- The offsets that are operations of the port: multiples of 4 in `0x00..0xFC` (R40, R45). -/
def portOffset (off : Nat) : Bool :=
  off % 4 == 0 && decide (off ≤ 0xFC)

end Sys2Proof
end

