-- ==== Sys2Proof/Decode.lean ====
section
/-! DEFINITION. The decoder of command words, total on all `2^32` words, the encoder, and the opcode table as data
(spec/30_encoding.md rules R60 to R64). -/

namespace Sys2Proof

/-- Why a word is illegal: the three ways R64 lists. The block treats them alike. -/
inductive Illegal where
  /-- `rsv = w[31:16]` is not zero. -/
  | reservedBits
  /-- `imm = w[15:8]` is not zero and `op` is not `PUTC`'s. -/
  | immediate
  /-- `op = w[7:0]` is none of the nine opcodes. -/
  | opcode
deriving DecidableEq, Repr

/-- `op = w[7:0]` (R60). -/
def opField (w : Word) : Byte := w.extractLsb' 0 8

/-- `imm = w[15:8]` (R60). -/
def immField (w : Word) : Byte := w.extractLsb' 8 8

/-- `rsv = w[31:16]` (R60). -/
def rsvField (w : Word) : BitVec 16 := w.extractLsb' 16 16

/-- The eight opcodes of format C0 (R60, R63). -/
def decodeC0 (op : Byte) : Except Illegal Instr :=
  match op with
  | 0x00#8 => .ok .nop
  | 0x01#8 => .ok .clrt
  | 0x03#8 => .ok .construct
  | 0x04#8 => .ok .zeroize
  | 0x10#8 => .ok .hotp
  | 0x11#8 => .ok .ctrgen
  | 0x12#8 => .ok .totp
  | 0x13#8 => .ok .totpo
  | _ => .error .opcode

/-- The decode function of R63, in the order R63 tests the fields. -/
def decode (w : Word) : Except Illegal Instr :=
  if rsvField w ≠ 0 then .error .reservedBits
  else if opField w = 0x02#8 then .ok (.putc (immField w))
  else if immField w ≠ 0 then .error .immediate
  else decodeC0 (opField w)

/-- The instruction this decoder reads from a table row's word. A command is one 32-bit word, so the bits the table
numbers are the word's own; bits above `nbits` are zero. -/
def decodeTableWord (nbits w : Nat) : Option Instr :=
  (decode (BitVec.ofNat 32 (w % 2 ^ nbits))).toOption

/-- A command word from its fields, `(imm << 8) | op`: `rsv = 0` in both formats (R60, R66). -/
def commandWord (op imm : Byte) : Word := (imm.setWidth 32 <<< 8) ||| op.setWidth 32

/-- The word of a command (R63, R66). -/
def encode : Instr → Word
  | .nop => commandWord 0x00 0
  | .clrt => commandWord 0x01 0
  | .putc imm8 => commandWord 0x02 imm8
  | .construct => commandWord 0x03 0
  | .zeroize => commandWord 0x04 0
  | .hotp => commandWord 0x10 0
  | .ctrgen => commandWord 0x11 0
  | .totp => commandWord 0x12 0
  | .totpo => commandWord 0x13 0

/-- A row of R63's table. -/
structure OpcodeRow where
  mnemonic : String
  pattern : Word
  mask : Word
deriving DecidableEq, Repr

/-- R63's table (spec/opcode_table.json), row by row: the decoder's cross-check, not its definition. -/
def opcodeTable : List OpcodeRow :=
  [ ⟨"NOP", 0x00000000, 0xFFFFFFFF⟩,
    ⟨"CLRT", 0x00000001, 0xFFFFFFFF⟩,
    ⟨"PUTC", 0x00000002, 0xFFFF00FF⟩,
    ⟨"CONSTRUCT", 0x00000003, 0xFFFFFFFF⟩,
    ⟨"ZEROIZE", 0x00000004, 0xFFFFFFFF⟩,
    ⟨"HOTP", 0x00000010, 0xFFFFFFFF⟩,
    ⟨"CTRGEN", 0x00000011, 0xFFFFFFFF⟩,
    ⟨"TOTP", 0x00000012, 0xFFFFFFFF⟩,
    ⟨"TOTPO", 0x00000013, 0xFFFFFFFF⟩ ]

/-- A word selects a row when `w & mask = match` (R63). -/
def OpcodeRow.selects (r : OpcodeRow) (w : Word) : Bool := w &&& r.mask == r.pattern

end Sys2Proof
end

