-- ==== Sys2Proof/Config.lean ====
section
/-! DEFINITION. What an implementation of the block fixes (spec/00_scope.md rule R4) and the one free input, the
time source (spec/60_exceptions.md rules R142, R143). -/

namespace Sys2Proof

/-- The legal capacities of the text buffer: any multiple of 8 with `8 <= TMAX <= 65528` (R4, decision D3). -/
def legalTMAX (n : Nat) : Bool :=
  n % 8 == 0 && decide (8 ≤ n) && decide (n ≤ 65528)

/-- The parameters of one implementation. `TMAX` is the spec's one open parameter (R4); it carries the proof that it is
legal, so an illegal block cannot be written down. DESIGN CHOICE (notes/assumptions/1.md): the parameter is held in State,
where no step changes it, because `exec` takes no other argument. -/
structure Params where
  /-- `TMAX`, the capacity of the text buffer in characters. -/
  tmax : Nat
  /-- The capacity is one R4 allows. -/
  legal : legalTMAX tmax = true
deriving DecidableEq, Repr

/-- `KMAX = 5 * TMAX / 8`, the capacity of the secret store in bytes, not independent of `TMAX` (R4). -/
def Params.kmax (p : Params) : Nat := 5 * p.tmax / 8

/-- The default block: `TMAX = 128`, so `KMAX = 80` (R4). -/
def Params.default : Params := ⟨128, by decide⟩

/-- The time input `now_unix` as a free value: the value presented to draw number `n` (R142). Nothing constrains it, no
monotonicity and no relation between draws (R143), so it is an uninterpreted constant:
a FREE VALUE (notes/assumptions/2.md). -/
opaque Config.timeInput : Nat → DWord

end Sys2Proof
end

