-- ==== Sys2Proof/Machine/State.lean ====
section
/-! DEFINITION. The state of the block, one field per element of spec/10_state.md rule R10, with the environment (host,
scheduler, time input) beside it (spec/00_scope.md rule R8), and the reasons a step can stop. -/

namespace Sys2Proof.Machine

/-- Faults: none. Every abnormal condition of the block is an outcome code left by a command that completes
(R130, R139: "control goes nowhere"), so no step of this model faults. -/
inductive Fault where
deriving DecidableEq, Repr

/-- Refusals. -/
inductive Refusal where
  /-- A command that has no meaning in this model. Raised only by a refused arm of `exec`; there is none. Safe. -/
  | notModelled (mnemonic : String)
  /-- A `HostRead` or `HostWrite` whose offset is not a multiple of 4 in `0x00..0xFC`: "not an operation of the port: the
  model refuses it" (R45). Raised by the environment's turn, never by a command. Safe. -/
  | notAPortOperation (off : Nat)
deriving DecidableEq, Repr

/-- The twenty-two mapped registers of R41. -/
inductive Reg where
  | cmd | status | cfgDigits | cfgPeriod | ctrLo | ctrHi | ofsLo | ofsHi | code | dbc | ctroLo | ctroHi
  | tsnapLo | tsnapHi | len | engDigits | engPeriod | digest0 | digest1 | digest2 | digest3 | digest4
deriving DecidableEq, Repr

/-- One turn of the environment: a step of the host or of the reset input (R8), a change of the time input, or the
scheduler giving the core its turn. -/
inductive Event where
  /-- `HostWrite(off, v)` (R43). -/
  | write (off : Nat) (v : Word)
  /-- `HostRead(off)` (R42). -/
  | read (off : Nat)
  /-- A further `RD STATUS` of a `WAIT` (R67): the host makes it if its last read of `STATUS` gave `s[0] = 1`, and has left
  the loop otherwise. -/
  | poll
  /-- The Reset step (R150). -/
  | reset
  /-- `TIME <- v`: what the time input presents to the draws that follow (R65). -/
  | time (v : DWord)
  /-- The scheduler gives the core its turn: its Complete step, if one is enabled (R57). -/
  | core
deriving DecidableEq, Repr

/-- What the host got from one `HostRead`. -/
structure Seen where
  off : Nat
  value : Word
deriving DecidableEq, Repr

/-- The environment of the block: the model's own fields, no state of the block (R8; notes/assumptions/3.md). -/
structure Env where
  /-- The turns still to come, in order. -/
  script : List Event
  /-- What the time input presents, where the script has fixed it (R65); `none`: each draw is free (R143). -/
  timeIn : Option DWord
  /-- How many draws of the time input have been made: the index of the next free draw. -/
  draws : Nat
  /-- What the host has read so far, newest first. -/
  seen : List Seen
deriving DecidableEq, Repr

/-- The whole state: R10's record, element by element, with the parameters and the environment. `KLEN` and `TLEN` are the
lengths of `secret` and `txt` (R33 (a)) and are computed, not stored twice: see `State.klen` and `State.tlen`. -/
structure State where
  /-- The implementation's parameters (R4); no step changes them. -/
  params : Params
  /-- `STATUS.BUSY`, the phase: false is `IDLE`, true is `BUSY` (R11). -/
  busy : Bool
  /-- `PEND`, the command word accepted and not yet replaced; hidden (R31). -/
  pend : Word
  /-- `TLATCH`, the time drawn at the last Accept; hidden (R32). -/
  tlatch : DWord
  /-- `CFG_DIGITS`, staged (R16). -/
  cfgDigits : Word
  /-- `CFG_PERIOD`, staged (R16). -/
  cfgPeriod : Word
  /-- `CTR`, the counter operand of `HOTP` (R14). -/
  ctr : DWord
  /-- `OFS`, the period offset (R15). -/
  ofs : DWord
  /-- `STATUS.VALID`: the slot holds an instance (R17). -/
  valid : Bool
  /-- `SECRET`, the decoded key (R17). -/
  secret : List Byte
  /-- `ENG_DIGITS`, the instance's digit count (R17). -/
  engDigits : Word
  /-- `ENG_PERIOD`, the instance's period (R17). -/
  engPeriod : Word
  /-- `TXT`, the text buffer (R18). -/
  txt : List Byte
  /-- `STATUS.TOVF`: a character was dropped since the buffer was last emptied (R18). -/
  tovf : Bool
  /-- `CODE`, the decimal code (R19). -/
  code : Word
  /-- `DBC`, the 31-bit dynamic binary code (R19). -/
  dbc : Word
  /-- `DIGEST`, the HMAC-SHA1 digest (R19). -/
  digest : Digest
  /-- `CTRO`, the counter used or produced by the last successful code command (R19). -/
  ctro : DWord
  /-- `TSNAP`, the time used by the last successful time command (R19). -/
  tsnap : DWord
  /-- `STATUS.ERR`, the outcome of the last completed command (R24). -/
  err : BitVec 4
  /-- `STATUS.OVR`, sticky: a host write was dropped (R23). -/
  ovr : Bool
  /-- The environment. -/
  env : Env
deriving DecidableEq, Repr

/-- The state right after Reset (R34), of the default block (R4), with nothing to come from the environment, no draw made
and nothing read. Every value of the block is the spec's; those of `env` are the model's own (notes/assumptions/3.md). -/
def State.reset : State where
  params := Params.default
  busy := false
  pend := 0
  tlatch := 0
  cfgDigits := 6
  cfgPeriod := 30
  ctr := 0
  ofs := 0
  valid := false
  secret := []
  engDigits := 0
  engPeriod := 0
  txt := []
  tovf := false
  code := 0
  dbc := 0
  digest := Vector.replicate 20 0
  ctro := 0
  tsnap := 0
  err := 0
  ovr := false
  env := { script := [], timeIn := none, draws := 0, seen := [] }

end Sys2Proof.Machine
end

