-- ==== Sys2Proof/Machine/Operands.lean ====
section
/-! DEFINITION. The operand forms of the block: the halves of the 64-bit registers (spec/20_memory.md rule R48), the
big-endian byte orders (spec/00_scope.md rule R6, spec/20_memory.md rules R49, R50) and the lengths derived from the two
byte stores (spec/10_state.md rules R10, R17, R18). -/

namespace Sys2Proof.Machine

/-- The `_LO` half, bits 31:0 (R48). -/
def loHalf (x : DWord) : Word := x.extractLsb' 0 32

/-- The `_HI` half, bits 63:32 (R48). -/
def hiHalf (x : DWord) : Word := x.extractLsb' 32 32

/-- A write of the `_LO` half leaves the other half unchanged (R14). -/
def setLo (x : DWord) (v : Word) : DWord := hiHalf x ++ v

/-- A write of the `_HI` half leaves the other half unchanged (R14). -/
def setHi (x : DWord) (v : Word) : DWord := v ++ loHalf x

/-- `be32(b0, b1, b2, b3) = (b0 << 24) | (b1 << 16) | (b2 << 8) | b3` (R6). -/
def be32 (b0 b1 b2 b3 : Byte) : Word :=
  (b0.setWidth 32 <<< 24) ||| (b1.setWidth 32 <<< 16) ||| (b2.setWidth 32 <<< 8) ||| b3.setWidth 32

/-- `BE32(w)`, most significant byte first (R6). -/
def bytes32 (w : Word) : List Byte :=
  [w.extractLsb' 24 8, w.extractLsb' 16 8, w.extractLsb' 8 8, w.extractLsb' 0 8]

/-- `BE64(v)`, most significant byte first (R6): the counter serialisation of R100. -/
def bytes64 (v : DWord) : List Byte :=
  [v.extractLsb' 56 8, v.extractLsb' 48 8, v.extractLsb' 40 8, v.extractLsb' 32 8,
   v.extractLsb' 24 8, v.extractLsb' 16 8, v.extractLsb' 8 8, v.extractLsb' 0 8]

/-- `DIGESTn = be32(DIGEST[4n], DIGEST[4n+1], DIGEST[4n+2], DIGEST[4n+3])` (R49). -/
def digestWord (d : Digest) (n : Fin 5) : Word :=
  be32 (d[4 * n.val]) (d[4 * n.val + 1]) (d[4 * n.val + 2]) (d[4 * n.val + 3])

/-- `KLEN`, the length of the stored secret (R17). -/
def State.klen (s : State) : Nat := s.secret.length

/-- `TLEN`, the number of characters in the text buffer (R18). -/
def State.tlen (s : State) : Nat := s.txt.length

/-- Byte `i` of the physical secret store of `KMAX` bytes: the bytes past `KLEN` are zero (R10, R77). -/
def State.secretStore (s : State) (i : Nat) : Byte := s.secret.getD i 0

end Sys2Proof.Machine
end

