-- ==== Sys2Proof/Machine/Derive.lean ====
section
/-! DEFINITION. The derivation of the counter from the time (spec/43_time_counter.md rule R120). -/

namespace Sys2Proof.Machine

/-- `DERIVE(t, period, ofs) = bits_64(floor(sint_64(t) / period)) +_64 ofs` (R120): floor division, wrapping addition.
It is not defined for `period = 0` and no command evaluates it there (R121). -/
def derive (t : DWord) (period : Word) (ofs : DWord) : DWord :=
  BitVec.ofInt 64 (Int.fdiv t.toInt period.toNat) + ofs

end Sys2Proof.Machine
end

