-- ==== Sys2Proof/Machine/Flags.lean ====
section
/-! DEFINITION. The outcome codes (spec/60_exceptions.md rule R130) and the registers assembled from flags and lengths,
`STATUS` and `LEN` (spec/10_state.md rules R20, R25), with the write-one-to-clear of `OVR` (R23). -/

namespace Sys2Proof.Machine

/-- The outcomes of a command (R130). -/
inductive ErrCode where
  /-- The command succeeded. -/
  | ok
  /-- `DECODE`, the document's `DecodeError` (R131). -/
  | decode
  /-- `TXTOVF`, the text buffer is or was full (R132). -/
  | txtovf
  /-- `NOENG`, the slot is empty (R133). -/
  | noeng
  /-- `PERIOD0`, `ENG_PERIOD = 0` (R134). -/
  | period0
  /-- `ILLCMD`, an illegal command word (R135). -/
  | illcmd
deriving DecidableEq, Repr

/-- The 4-bit code `STATUS.ERR` shows (R130). -/
def ErrCode.code : ErrCode → BitVec 4
  | .ok => 0
  | .decode => 1
  | .txtovf => 2
  | .noeng => 3
  | .period0 => 4
  | .illcmd => 5

/-- `STATUS = zext_32({ERR[3:0], OVR, TOVF, VALID, BUSY})` (R20). -/
def statusWord (s : State) : Word :=
  ((((s.err ++ BitVec.ofBool s.ovr) ++ BitVec.ofBool s.tovf) ++ BitVec.ofBool s.valid) ++ BitVec.ofBool s.busy).setWidth 32

/-- `LEN = {TLEN[15:0], KLEN[15:0]}` (R25, R41). -/
def lenWord (s : State) : Word :=
  BitVec.ofNat 16 s.tlen ++ BitVec.ofNat 16 s.klen

/-- A write to `STATUS`: bit 3 of the value clears `OVR`, all other bits are ignored (R20, R23, R43, R44). -/
def writeStatus (v : Word) (s : State) : State :=
  if v[3] then { s with ovr := false } else s

end Sys2Proof.Machine
end

