-- ==== Sys2Proof/Machine/Ops.lean ====
section
/-! DEFINITION. The shared operations on the state: the end of every command and the error entry (spec/20_memory.md rule
R57, spec/60_exceptions.md rules R139, R140), Accept and the dropped write (R56, R58), `Destroy()` and the emptying of the
text buffer (spec/40_secret_load.md rules R77, R71), and Reset (spec/70_reset_and_hazards.md rule R150). -/

namespace Sys2Proof.Machine

/-- The common tail of every Complete step: `ERR <- outcome; BUSY <- 0` (R57). `PEND` keeps its word (R12). -/
def finish (o : ErrCode) (s : State) : State :=
  { s with err := o.code, busy := false }

/-- The end of a command that succeeded (R57). -/
def succeed (s : State) : Host.Outcome State Fault Refusal :=
  .next (finish .ok s)

/-- `fail E`, the error entry (R7, R139): the state changes the rule lists before the `fail` are already in `s`, then
`ERR <- E` and the core is `IDLE`. Nothing is saved and there is nothing to return from (R140). -/
def fail (e : ErrCode) (s : State) : Host.Outcome State Fault Refusal :=
  .next (finish e s)

/-- The Complete step of an illegal command word (R64, R135). -/
def completeIllegal (s : State) : Host.Outcome State Fault Refusal :=
  fail .illcmd s

/-- `now()`: what the time input presents at this step (R142); a free value unless the script has fixed it (R65, R143). -/
def now (s : State) : DWord :=
  s.env.timeIn.getD (Config.timeInput s.env.draws)

/-- Accept (R56): latch the word and the time, enter `BUSY`, and nothing else. It counts the draw in the environment. -/
def accept (w : Word) (s : State) : State :=
  { s with pend := w, tlatch := now s, busy := true, env := { s.env with draws := s.env.draws + 1 } }

/-- A dropped write: its only effect is `OVR <- 1` (R58). -/
def dropWrite (s : State) : State :=
  { s with ovr := true }

/-- `TXT <- []; TLEN <- 0; TOVF <- 0` (R71, R78, R79). -/
def clearText (s : State) : State :=
  { s with txt := [], tovf := false }

/-- `Destroy()` (R77): the slot and the result registers. `KLEN` and the bytes of the store follow from `SECRET`. -/
def destroy (s : State) : State :=
  { s with
    valid := false, secret := [], engDigits := 0, engPeriod := 0
    code := 0, dbc := 0, digest := Vector.replicate 20 0, ctro := 0, tsnap := 0 }

/-- The Reset step (R150, R151): every element of the block takes its reset value, whatever was in flight. The time
input is outside the block and is not reset (R152), and neither are the host and the parameters. -/
def resetBlock (s : State) : State :=
  { State.reset with params := s.params, env := s.env }

end Sys2Proof.Machine
end

