-- ==== Sys2Proof/Machine/Sha1.lean ====
section
/-! DEFINITION. SHA-1 (spec/41_hmac_sha1.md rules R91 to R96) as a pure function: its working storage is no state of the
block (spec/10_state.md rule R30). -/

namespace Sys2Proof.Machine

/-- The five chaining words `H0..H4`, and the working words `a..e` of one compression. -/
structure Chain where
  a : Word
  b : Word
  c : Word
  d : Word
  e : Word
deriving DecidableEq, Repr

/-- `rotl32(x, n)` for `0 < n < 32` (R5). -/
def rotl32 (x : Word) (n : Nat) : Word := (x <<< n) ||| (x >>> (32 - n))

/-- The zero bytes of the padding, `z = (55 - l) mod 64` (R92). -/
def padZeros (l : Nat) : Nat := (55 + 63 * l) % 64

/-- `PAD(M)` (R92). -/
def pad (m : List Byte) : List Byte :=
  m ++ [0x80] ++ List.replicate (padZeros m.length) 0 ++ bytes64 (BitVec.ofNat 64 (8 * m.length))

/-- The initial chaining value (R93). -/
def initialChain : Chain := ⟨0x67452301, 0xEFCDAB89, 0x98BADCFE, 0x10325476, 0xC3D2E1F0⟩

/-- The big-endian words of a block (R94, `0 <= t <= 15`). -/
def blockWords : List Byte → List Word
  | b0 :: b1 :: b2 :: b3 :: rest => be32 b0 b1 b2 b3 :: blockWords rest
  | _ => []

/-- `W[t]` from the words before it, newest first (R94, `16 <= t <= 79`): the newest is `W[t-1]`. -/
def nextWord (newestFirst : List Word) : Word :=
  rotl32 (newestFirst.getD 2 0 ^^^ newestFirst.getD 7 0 ^^^ newestFirst.getD 13 0 ^^^ newestFirst.getD 15 0) 1

/-- `n` more words of the schedule, newest first. -/
def extendSchedule : Nat → List Word → List Word
  | 0, ws => ws
  | n + 1, ws => extendSchedule n (nextWord ws :: ws)

/-- The eighty words `W[0..79]` of a 64-byte block (R94). -/
def schedule (block : List Byte) : List Word :=
  (extendSchedule 64 (blockWords block).reverse).reverse

/-- `f` of iteration `t` (R95). -/
def roundFunction (t : Nat) (b c d : Word) : Word :=
  if t ≤ 19 then (b &&& c) ||| (~~~b &&& d)
  else if t ≤ 39 then b ^^^ c ^^^ d
  else if t ≤ 59 then (b &&& c) ||| (b &&& d) ||| (c &&& d)
  else b ^^^ c ^^^ d

/-- `K` of iteration `t` (R95). -/
def roundConstant (t : Nat) : Word :=
  if t ≤ 19 then 0x5A827999
  else if t ≤ 39 then 0x6ED9EBA1
  else if t ≤ 59 then 0x8F1BBCDC
  else 0xCA62C1D6

/-- One iteration: the five assignments are a simultaneous shift (R95). -/
def sha1Round (t : Nat) (w : Word) (x : Chain) : Chain where
  a := rotl32 x.a 5 + roundFunction t x.b x.c x.d + x.e + roundConstant t + w
  b := x.a
  c := rotl32 x.b 30
  d := x.c
  e := x.d

/-- The iterations from number `t` on, one per word (R95). -/
def sha1Rounds : Nat → List Word → Chain → Chain
  | _, [], x => x
  | t, w :: ws, x => sha1Rounds (t + 1) ws (sha1Round t w x)

/-- `COMPRESS(H, X)` (R95). -/
def compress (h : Chain) (block : List Byte) : Chain :=
  let x := sha1Rounds 0 (schedule block) h
  ⟨h.a + x.a, h.b + x.b, h.c + x.c, h.d + x.d, h.e + x.e⟩

/-- `n` blocks of a padded message, in order (R96). -/
def compressBlocks : Nat → List Byte → Chain → Chain
  | 0, _, h => h
  | n + 1, m, h => compressBlocks n (m.drop 64) (compress h (m.take 64))

/-- The digest of a chaining value, `BE32(H0) ++ ... ++ BE32(H4)` (R96). -/
def digestOfChain (h : Chain) : Digest :=
  ⟨(bytes32 h.a ++ bytes32 h.b ++ bytes32 h.c ++ bytes32 h.d ++ bytes32 h.e).toArray, by simp [bytes32]⟩

/-- `SHA1(M)` (R96). -/
def sha1 (m : List Byte) : Digest :=
  digestOfChain (compressBlocks ((pad m).length / 64) (pad m) initialChain)

end Sys2Proof.Machine
end

