-- ==== Sys2Proof/Machine/Hmac.lean ====
section
/-! DEFINITION. HMAC-SHA1 (spec/41_hmac_sha1.md rules R98, R99). -/

namespace Sys2Proof.Machine

/-- The 64-byte block key `K0` (R98): a key of at most 64 bytes as it stands, a longer one hashed first, zero-extended. -/
def blockKey (k : List Byte) : List Byte :=
  if k.length ≤ 64 then k ++ List.replicate (64 - k.length) 0
  else (sha1 k).toList ++ List.replicate 44 0

/-- Every byte XORed with `x` (R99). -/
def xorBytes (x : Byte) (bs : List Byte) : List Byte := bs.map (· ^^^ x)

/-- `HMAC_SHA1(K, m)` (R99). -/
def hmacSha1 (k m : List Byte) : Digest :=
  sha1 (xorBytes 0x5C (blockKey k) ++ (sha1 (xorBytes 0x36 (blockKey k) ++ m)).toList)

end Sys2Proof.Machine
end

