-- ==== Sys2Proof/Machine/Truncate.lean ====
section
/-! DEFINITION. Dynamic truncation and decimal reduction (spec/42_truncation_code.md rules R110 to R112), and the whole
code pipeline (spec/41_hmac_sha1.md rule R90). -/

namespace Sys2Proof.Machine

/-- The window offset `o = D[19] & 0x0F`, 0 to 15 (R111). -/
def windowOffset (d : Digest) : Fin 16 :=
  ⟨(d[19] &&& 0x0F).toNat, by
    rw [BitVec.toNat_and]
    exact Nat.lt_of_le_of_lt Nat.and_le_right (by decide)⟩

/-- `DT(D)`: the four bytes of the window, big-endian, the top bit of the first masked (R111). -/
def dynTrunc (d : Digest) : Word :=
  be32 (d[(windowOffset d).val]'(by omega) &&& 0x7F) (d[(windowOffset d).val + 1]'(by omega))
    (d[(windowOffset d).val + 2]'(by omega)) (d[(windowOffset d).val + 3]'(by omega))

/-- `REDUCE(P, digits) = P mod 10^digits` as R112 says the hardware does it: `10^digits` is never formed for
`digits >= 10`, where `P < 2^31 < 10^10` passes through. -/
def reduce (p digits : Word) : Word :=
  if 10 ≤ digits.toNat then p else BitVec.ofNat 32 (p.toNat % 10 ^ digits.toNat)

/-- `CODEOF(secret, c, digits)` (R90). -/
def codeOf (secret : List Byte) (c : DWord) (digits : Word) : Word :=
  reduce (dynTrunc (hmacSha1 secret (bytes64 c))) digits

end Sys2Proof.Machine
end

