-- ==== Sys2Proof/Machine/Code.lean ====
section
/-! DEFINITION. The meanings of the code commands (spec/42_truncation_code.md rule R114, spec/43_time_counter.md rules R122
to R124): the Complete step of each. -/

namespace Sys2Proof.Machine

/-- The code pipeline for counter `c` (R114): `DIGEST`, `DBC`, `CODE` and `CTRO`, all together. -/
def putCode (c : DWord) (s : State) : State :=
  { s with
    digest := hmacSha1 s.secret (bytes64 c)
    dbc := dynTrunc (hmacSha1 s.secret (bytes64 c))
    code := codeOf s.secret c s.engDigits
    ctro := c }

/-- `TSNAP <- TLATCH` (R122 to R124). -/
def putTime (s : State) : State :=
  { s with tsnap := s.tlatch }

/-- The guards of the time commands, `NOENG` before `PERIOD0` (R122 to R124, R138). -/
def timeCommand (s : State) (effect : State) : Host.Outcome State Fault Refusal :=
  if s.valid = false then fail .noeng s
  else if s.engPeriod = 0 then fail .period0 s
  else succeed effect

/-- `HOTP` (R114). -/
def execHotp (s : State) : Host.Outcome State Fault Refusal :=
  if s.valid = false then fail .noeng s
  else succeed (putCode s.ctr s)

/-- `CTRGEN` (R122): it hashes nothing and leaves `DIGEST`, `DBC`, `CODE` unchanged. -/
def execCtrgen (s : State) : Host.Outcome State Fault Refusal :=
  timeCommand s (putTime { s with ctro := derive s.tlatch s.engPeriod s.ofs })

/-- `TOTP` (R123): `OFS` is ignored. -/
def execTotp (s : State) : Host.Outcome State Fault Refusal :=
  timeCommand s (putTime (putCode (derive s.tlatch s.engPeriod 0) s))

/-- `TOTPO` (R124). -/
def execTotpo (s : State) : Host.Outcome State Fault Refusal :=
  timeCommand s (putTime (putCode (derive s.tlatch s.engPeriod s.ofs) s))

end Sys2Proof.Machine
end

