-- ==== Sys2Proof/Machine/Base32.lean ====
section
/-! DEFINITION. The base32 decoder `DEC32` and the reference encoder `ENC32`, which no command computes
(spec/40_secret_load.md rules R73, R74, R76). -/

namespace Sys2Proof.Machine

/-- The pad character `'='` (R73). -/
def padChar : Byte := 0x3D

/-- `val(c)`: the 5-bit value of a character of the alphabet, nothing for every other byte (R73). -/
def base32Val (c : Byte) : Option (BitVec 5) :=
  if 0x41 ≤ c.toNat ∧ c.toNat ≤ 0x5A then some (BitVec.ofNat 5 (c.toNat - 0x41))
  else if 0x32 ≤ c.toNat ∧ c.toNat ≤ 0x37 then some (BitVec.ofNat 5 (c.toNat - 0x32 + 26))
  else none

/-- `ALPHA[v]`: `'A'..'Z'` spell 0 to 25 and `'2'..'7'` spell 26 to 31 (R73). -/
def base32Char (v : BitVec 5) : Byte :=
  if v.toNat < 26 then BitVec.ofNat 8 (0x41 + v.toNat) else BitVec.ofNat 8 (0x32 + (v.toNat - 26))

/-- The number of trailing `'='` characters (R74 step 2). -/
def padCount (s : List Byte) : Nat := (s.reverse.takeWhile (· == padChar)).length

/-- The pad counts a last group can have (R74 step 3). -/
def legalPad (p : Nat) : Bool := p == 0 || p == 1 || p == 3 || p == 4 || p == 6

/-- The values of all characters, or nothing if one is outside the alphabet (R74 step 5). -/
def base32Vals : List Byte → Option (List (BitVec 5))
  | [] => some []
  | c :: cs =>
    match base32Val c, base32Vals cs with
    | some v, some vs => some (v :: vs)
    | _, _ => none

/-- Five bits, most significant first (R74 step 6). -/
def bits5 (v : BitVec 5) : List Bool :=
  [v[4], v[3], v[2], v[1], v[0]]

/-- A byte from its first eight bits, most significant first; missing bits count as 0 (R74 step 8). -/
def byteOfBits (bits : List Bool) : Byte :=
  (bits.take 8).foldl (fun acc b => (acc <<< 1) ||| (BitVec.ofBool b).setWidth 8) 0

/-- The first `k` bytes of a bit string; what is left over is discarded (R74 step 8). -/
def bytesOfBits : Nat → List Bool → List Byte
  | 0, _ => []
  | k + 1, bits => byteOfBits bits :: bytesOfBits k (bits.drop 8)

/-- Steps 6 to 8 of R74: `floor(5n / 8)` bytes from `n` values. -/
def packVals (vs : List (BitVec 5)) : List Byte :=
  bytesOfBits (5 * vs.length / 8) (vs.flatMap bits5)

/-- `DEC32(s)` (R74); `none` is `DecodeError`. -/
def dec32 (s : List Byte) : Option (List Byte) :=
  if s.length % 8 ≠ 0 then none
  else if legalPad (padCount s) = false then none
  else (base32Vals (s.take (s.length - padCount s))).map packVals

/-- The 8 characters of a group of five bytes: the 5-bit fields of its 40-bit big-endian value, first field first
(R76). -/
def encodeGroup (b0 b1 b2 b3 b4 : Byte) : List Byte :=
  let g : BitVec 40 := (((b0 ++ b1) ++ b2) ++ b3) ++ b4
  [base32Char (g.extractLsb' 35 5), base32Char (g.extractLsb' 30 5), base32Char (g.extractLsb' 25 5),
   base32Char (g.extractLsb' 20 5), base32Char (g.extractLsb' 15 5), base32Char (g.extractLsb' 10 5),
   base32Char (g.extractLsb' 5 5), base32Char (g.extractLsb' 0 5)]

/-- The first `c` characters of a short group, then `'='` up to eight (R76). -/
def padGroup (c : Nat) (group : List Byte) : List Byte :=
  group.take c ++ List.replicate (8 - c) padChar

/-- `ENC32(b)`, the reference encoder (R76). -/
def enc32 : List Byte → List Byte
  | [] => []
  | [b0] => padGroup 2 (encodeGroup b0 0 0 0 0)
  | [b0, b1] => padGroup 4 (encodeGroup b0 b1 0 0 0)
  | [b0, b1, b2] => padGroup 5 (encodeGroup b0 b1 b2 0 0)
  | [b0, b1, b2, b3] => padGroup 7 (encodeGroup b0 b1 b2 b3 0)
  | b0 :: b1 :: b2 :: b3 :: b4 :: rest => encodeGroup b0 b1 b2 b3 b4 ++ enc32 rest

end Sys2Proof.Machine
end

