-- ==== Sys2Proof/Machine/Secret.lean ====
section
/-! DEFINITION. The meanings of the secret-handling commands (spec/40_secret_load.md rules R70 to R72, R78, R79): the
Complete step of each. -/

namespace Sys2Proof.Machine

/-- `NOP` (R70). -/
def execNop (s : State) : Host.Outcome State Fault Refusal :=
  succeed s

/-- `CLRT` (R71): it does not touch the slot. -/
def execClrt (s : State) : Host.Outcome State Fault Refusal :=
  succeed (clearText s)

/-- `PUTC imm8` (R72): the character is not inspected; on a full buffer it is dropped. -/
def execPutc (imm8 : Byte) (s : State) : Host.Outcome State Fault Refusal :=
  if s.tlen < s.params.tmax then succeed { s with txt := s.txt ++ [imm8] }
  else fail .txtovf { s with tovf := true }

/-- What `CONSTRUCT` makes of the text (R78 line 2): a truncated text is not decoded at all, so `TXTOVF` comes before
`DECODE` (R138). -/
def decodeText (s : State) : Except ErrCode (List Byte) :=
  if s.tovf then .error .txtovf
  else match dec32 s.txt with
    | some key => .ok key
    | none => .error .decode

/-- The new instance: the key and the staged configuration, verbatim (R78 line 2). -/
def install (key : List Byte) (s : State) : State :=
  { s with secret := key, engDigits := s.cfgDigits, engPeriod := s.cfgPeriod, valid := true }

/-- `CONSTRUCT` (R78): the old instance is destroyed first, and the text is consumed whether or not it decoded. -/
def execConstruct (s : State) : Host.Outcome State Fault Refusal :=
  match decodeText s with
  | .ok key => succeed (clearText (install key (destroy s)))
  | .error e => fail e (clearText (destroy s))

/-- `ZEROIZE` (R79). -/
def execZeroize (s : State) : Host.Outcome State Fault Refusal :=
  succeed (clearText (destroy s))

end Sys2Proof.Machine
end

