-- ==== Sys2Proof/Machine/Dispatch.lean ====
section
/-! DEFINITION. The Complete step of each command, one arm per constructor (spec/20_memory.md rule R57). -/

namespace Sys2Proof.Machine

def exec (i : Instr) (s : State) : Host.Outcome State Fault Refusal :=
  match i with
  | .nop => Sys2Proof.Machine.execNop s
  | .clrt => Sys2Proof.Machine.execClrt s
  | .putc imm8 => Sys2Proof.Machine.execPutc imm8 s
  | .construct => Sys2Proof.Machine.execConstruct s
  | .zeroize => Sys2Proof.Machine.execZeroize s
  | .hotp => Sys2Proof.Machine.execHotp s
  | .ctrgen => Sys2Proof.Machine.execCtrgen s
  | .totp => Sys2Proof.Machine.execTotp s
  | .totpo => Sys2Proof.Machine.execTotpo s

end Sys2Proof.Machine
end

