-- ==== Sys2Proof/Machine/HostPort.lean ====
section
/-! DEFINITION. The host register port: the register map, `HostRead` and `HostWrite` (spec/20_memory.md rules R41 to R44,
R56, R58, R59). -/

namespace Sys2Proof.Machine

/-- The offset of a mapped register (R41). -/
def Reg.offset : Reg → Nat
  | .cmd => 0x00
  | .status => 0x04
  | .cfgDigits => 0x08
  | .cfgPeriod => 0x0C
  | .ctrLo => 0x10
  | .ctrHi => 0x14
  | .ofsLo => 0x18
  | .ofsHi => 0x1C
  | .code => 0x20
  | .dbc => 0x24
  | .ctroLo => 0x28
  | .ctroHi => 0x2C
  | .tsnapLo => 0x30
  | .tsnapHi => 0x34
  | .len => 0x38
  | .engDigits => 0x3C
  | .engPeriod => 0x40
  | .digest0 => 0x44
  | .digest1 => 0x48
  | .digest2 => 0x4C
  | .digest3 => 0x50
  | .digest4 => 0x54

/-- The mapped registers, in the order of R41. -/
def allRegs : List Reg :=
  [.cmd, .status, .cfgDigits, .cfgPeriod, .ctrLo, .ctrHi, .ofsLo, .ofsHi, .code, .dbc, .ctroLo, .ctroHi,
   .tsnapLo, .tsnapHi, .len, .engDigits, .engPeriod, .digest0, .digest1, .digest2, .digest3, .digest4]

/-- The register at an offset, nothing where the offset is unmapped (R41). -/
def regAt (off : Nat) : Option Reg := allRegs.find? (fun r => r.offset == off)

/-- The content R41 gives for a mapped register; a read of `CMD` gives 0 (R13, R42). -/
def readReg (s : State) : Reg → Word
  | .cmd => 0
  | .status => statusWord s
  | .cfgDigits => s.cfgDigits
  | .cfgPeriod => s.cfgPeriod
  | .ctrLo => loHalf s.ctr
  | .ctrHi => hiHalf s.ctr
  | .ofsLo => loHalf s.ofs
  | .ofsHi => hiHalf s.ofs
  | .code => s.code
  | .dbc => s.dbc
  | .ctroLo => loHalf s.ctro
  | .ctroHi => hiHalf s.ctro
  | .tsnapLo => loHalf s.tsnap
  | .tsnapHi => hiHalf s.tsnap
  | .len => lenWord s
  | .engDigits => s.engDigits
  | .engPeriod => s.engPeriod
  | .digest0 => digestWord s.digest 0
  | .digest1 => digestWord s.digest 1
  | .digest2 => digestWord s.digest 2
  | .digest3 => digestWord s.digest 3
  | .digest4 => digestWord s.digest 4

/-- `HostRead(off)` (R42): a function of the state, with no effect on it; 0 for an unmapped offset (R44). -/
def hostRead (s : State) (off : Nat) : Word :=
  match regAt off with
  | some r => readReg s r
  | none => 0

/-- A write that is stored in `IDLE` and dropped in `BUSY` (R43, R58). -/
def whenIdle (s : State) (stored : State) : State :=
  if s.busy then dropWrite s else stored

/-- A write to a mapped register (R43); read-only registers ignore it (R44). -/
def writeReg (v : Word) (s : State) : Reg → State
  | .cmd => whenIdle s (accept v s)
  | .status => writeStatus v s
  | .cfgDigits => whenIdle s { s with cfgDigits := v }
  | .cfgPeriod => whenIdle s { s with cfgPeriod := v }
  | .ctrLo => whenIdle s { s with ctr := setLo s.ctr v }
  | .ctrHi => whenIdle s { s with ctr := setHi s.ctr v }
  | .ofsLo => whenIdle s { s with ofs := setLo s.ofs v }
  | .ofsHi => whenIdle s { s with ofs := setHi s.ofs v }
  | .code => s
  | .dbc => s
  | .ctroLo => s
  | .ctroHi => s
  | .tsnapLo => s
  | .tsnapHi => s
  | .len => s
  | .engDigits => s
  | .engPeriod => s
  | .digest0 => s
  | .digest1 => s
  | .digest2 => s
  | .digest3 => s
  | .digest4 => s

/-- `HostWrite(off, v)` (R43); an unmapped offset ignores it (R44). -/
def hostWrite (off : Nat) (v : Word) (s : State) : State :=
  match regAt off with
  | some r => writeReg v s r
  | none => s

/-- What the host reads goes into its own record; the block is unchanged (R42). -/
def recordRead (off : Nat) (s : State) : State :=
  { s with env := { s.env with seen := ⟨off, hostRead s off⟩ :: s.env.seen } }

/-- The test of `WAIT` (R67): the host's last read was of `STATUS` and gave `s[0] = 1`. -/
def lastReadBusy (s : State) : Bool :=
  match s.env.seen with
  | r :: _ => r.off == Reg.status.offset && r.value[0]
  | [] => false

/-- A further read of a `WAIT` (R67): `RD STATUS` while `s[0] = 1`; once `s[0] = 0` the loop has ended and the turn passes
(notes/assumptions/13.md). -/
def pollStatus (s : State) : State :=
  if lastReadBusy s then recordRead Reg.status.offset s else s

/-- `TIME <- v` (R65): the environment fixes what the time input presents. -/
def fixTime (v : DWord) (s : State) : State :=
  { s with env := { s.env with timeIn := some v } }

end Sys2Proof.Machine
end

