-- ==== Sys2Proof/Machine/Turns.lean ====
section
/-! DEFINITION. The turns of the two stepping agents: the core's Complete step (spec/20_memory.md rule R57) and the
environment's steps (spec/00_scope.md rule R8). -/

namespace Sys2Proof.Machine

/-- Complete (R57): decode `PEND` and perform the one command selected, or R64's failure. -/
def complete (s : State) : Host.Outcome State Fault Refusal :=
  match decode s.pend with
  | .ok i => exec i s
  | .error _ => completeIllegal s

/-- The core's turn: Complete is enabled exactly when `BUSY = 1`, and in `IDLE` the core has no step (R8, R11), so the
turn passes. DESIGN CHOICE (notes/assumptions/4.md): a turn that passes leaves the state as it is. -/
def coreTurn (s : State) : Host.Outcome State Fault Refusal :=
  if s.busy then complete s else .next s

/-- One turn of the environment (R8). An access at an offset that is no operation of the port is refused (R45). -/
def envTurn (e : Event) (s : State) : Host.Outcome State Fault Refusal :=
  match e with
  | .write off v => if portOffset off then .next (hostWrite off v s) else .refused (.notAPortOperation off)
  | .read off => if portOffset off then .next (recordRead off s) else .refused (.notAPortOperation off)
  | .poll => .next (pollStatus s)
  | .reset => .next (resetBlock s)
  | .time v => .next (fixTime v s)
  | .core => coreTurn s

/-- The turns still to come. -/
def State.withScript (s : State) (es : List Event) : State :=
  { s with env := { s.env with script := es } }

end Sys2Proof.Machine
end

