-- ==== Sys2Proof/Machine/Step.lean ====
section
/-! DEFINITION. The step of the whole model: the environment's script says which agent moves next (spec/00_scope.md rule
R8). -/

namespace Sys2Proof.Machine

/-- One step. While the script has turns, its first turn is taken; when it has none, the host is silent and the core's
turn comes, so a command in flight completes (the fairness of R8). DESIGN CHOICE (notes/assumptions/3.md). -/
def step (s : State) : Host.Outcome State Fault Refusal :=
  match s.env.script with
  | [] => coreTurn s
  | e :: rest => envTurn e (s.withScript rest)

/-- The state in which the very next step runs the command word `w`: the word stands in `PEND` with `BUSY = 1`, which is
where Complete takes it (R12, R57), and the next turn is the core's. Nothing else changes; no time is drawn
(notes/assumptions/5.md). -/
def State.withFetchWord (s : State) (nbits w : Nat) : State :=
  { s with
    pend := BitVec.ofNat 32 (w % 2 ^ nbits)
    busy := true
    env := { s.env with
      script := match s.env.script with
        | [] => []
        | e :: rest => .core :: e :: rest } }

end Sys2Proof.Machine
end

