-- ==== Sys2Proof/Machine/Script.lean ====
section
/-! DEFINITION. The host-script notation (spec/30_encoding.md rules R65 to R67): statements of the host, their expansions
into turns of the environment, and what a script claims. -/

namespace Sys2Proof.Machine

/-- The 64-bit pairs `RD64` names (R67). -/
inductive Pair where
  | ctr | ofs | ctro | tsnap
deriving DecidableEq, Repr

/-- The `_LO` and `_HI` registers of a pair (R41, R48). -/
def Pair.regs : Pair → Reg × Reg
  | .ctr => (.ctrLo, .ctrHi)
  | .ofs => (.ofsLo, .ofsHi)
  | .ctro => (.ctroLo, .ctroHi)
  | .tsnap => (.tsnapLo, .tsnapHi)

/-- The pairs `WR64` names (R67). -/
inductive OperandPair where
  | ctr | ofs
deriving DecidableEq, Repr

/-- An operand pair as a pair that is read. -/
def OperandPair.pair : OperandPair → Pair
  | .ctr => .ctr
  | .ofs => .ofs

/-- A statement of a host script (R65 to R67). `WAIT` repeats `RD STATUS` until the bit `BUSY` is 0, and between which two
reads the core completes is the schedule's affair: the statements that wait carry the number of reads before it, `polls`.
DESIGN CHOICE (notes/assumptions/13.md). -/
inductive Stmt where
  /-- `WR reg, value`. -/
  | wr (off : Nat) (v : Word)
  /-- `RD reg`. -/
  | rd (off : Nat)
  /-- `RESET`. -/
  | reset
  /-- `TIME <- value`. -/
  | time (v : DWord)
  /-- A command mnemonic on a line by itself: the Accept attempt alone (R66). -/
  | cmd (i : Instr)
  /-- `WAIT`. -/
  | wait (polls : Nat)
  /-- `X!`. -/
  | cmdWait (i : Instr) (polls : Nat)
  /-- `WR64 R, v`, for `R` in `CTR`, `OFS`. -/
  | wr64 (p : OperandPair) (v : DWord)
  /-- `RD64 R`. -/
  | rd64 (p : Pair)
  /-- `RDDIGEST`. -/
  | rdDigest
  /-- `PUTS "text"`. -/
  | puts (text : List Byte) (polls : Nat)
  /-- `LOADKEY "text"`. -/
  | loadKey (text : List Byte) (polls : Nat)
  /-- `CLROVR`. -/
  | clrOvr
  /-- `EXPECT reg = value`: the read, and the claim that it gives the value (`Stmt.claim`). -/
  | expect (off : Nat) (value : Word)
  /-- No statement of the host: a point at which the schedule gives the core its turn (R8). DESIGN CHOICE
  (notes/assumptions/16.md). -/
  | coreTurn
deriving DecidableEq, Repr

/-- A command statement is a write of its word to `CMD` (R66). -/
def commandTurn (i : Instr) : Event := .write Reg.cmd.offset (encode i)

/-- `WAIT` (R67): `RD STATUS` until it gives `s[0] = 0`. The core's turn comes after `polls` of the reads; every read but
the first is made only if the one before it gave `s[0] = 1`, so a `WAIT` begun in `IDLE` reads once. DESIGN CHOICE
(notes/assumptions/13.md): where in the loop the core's turn comes. -/
def waitTurns (polls : Nat) : List Event :=
  match polls with
  | 0 => [.core, .read Reg.status.offset]
  | more + 1 => .read Reg.status.offset :: (List.replicate more .poll ++ [.core, .poll])

/-- `X!` (R67). -/
def commandWaitTurns (i : Instr) (polls : Nat) : List Event := commandTurn i :: waitTurns polls

/-- The turns a statement expands to (R65 to R67). DESIGN CHOICE (notes/assumptions/16.md): a command statement that is not
waited for (R66) leaves open when its Complete step runs; the expansion gives the core no turn until the script's next
`coreTurn` point, its next wait or its end. -/
def Stmt.turns : Stmt → List Event
  | .wr off v => [.write off v]
  | .rd off => [.read off]
  | .reset => [.reset]
  | .time v => [.time v]
  | .cmd i => [commandTurn i]
  | .wait polls => waitTurns polls
  | .cmdWait i polls => commandWaitTurns i polls
  | .wr64 p v => [.write p.pair.regs.1.offset (loHalf v), .write p.pair.regs.2.offset (hiHalf v)]
  | .rd64 p => [.read p.regs.1.offset, .read p.regs.2.offset]
  | .rdDigest =>
    [.read Reg.digest0.offset, .read Reg.digest1.offset, .read Reg.digest2.offset, .read Reg.digest3.offset,
     .read Reg.digest4.offset]
  | .puts text polls => text.flatMap (fun c => commandWaitTurns (.putc c) polls)
  | .loadKey text polls =>
    commandWaitTurns .clrt polls ++ text.flatMap (fun c => commandWaitTurns (.putc c) polls)
      ++ commandWaitTurns .construct polls
  | .clrOvr => [.write Reg.status.offset 0x00000008]
  | .expect off _ => [.read off]
  | .coreTurn => [.core]

/-- The turns of a whole script, statement by statement (R65). The schedule between the statements is the script's own, by
its `coreTurn` points: DESIGN CHOICE (notes/assumptions/16.md). -/
def scriptTurns (script : List Stmt) : List Event := script.flatMap Stmt.turns

/-- The value of `RD64` from the two words read (R67). -/
def rd64Value (lo hi : Word) : DWord := hi ++ lo

/-- The value of `RDDIGEST` from the five words read (R67). -/
def rdDigestValue (words : List Word) : List Byte := words.flatMap bytes32

/-- What a statement claims of the state after its turns (R67): `EXPECT` that its read gave the value, the others nothing. -/
def Stmt.claim (stmt : Stmt) (after : State) : Bool :=
  match stmt with
  | .expect off value => after.env.seen.head? == some ⟨off, value⟩
  | _ => true

/-- The run of a script, statement by statement, in which every claim is checked where it stands (R67). -/
def claimsHold : List Stmt → State → Bool
  | [], _ => true
  | stmt :: rest, s =>
    match Host.Core.run Sys2Proof.core stmt.turns.length (s.withScript stmt.turns) with
    | .next t => stmt.claim t && claimsHold rest t
    | .fault _ => false
    | .refused _ => false

end Sys2Proof.Machine
end

