-- ==== Sys2Proof/Safety.lean ====
section
/-! DEFINITION. What the claims about the block are stated in: the invariant of spec/10_state.md rule R33, the state at
rest (spec/30_encoding.md rule R69), and which parts of two states agree. -/

namespace Sys2Proof.Machine

/-- The slot is empty: everything `Destroy()` clears is clear (R77, R33 (b)). -/
def SlotEmpty (s : State) : Prop :=
  s.secret = [] ∧ s.engDigits = 0 ∧ s.engPeriod = 0 ∧ s.code = 0 ∧ s.dbc = 0 ∧ s.digest = Vector.replicate 20 0
    ∧ s.ctro = 0 ∧ s.tsnap = 0

/-- The state invariants of R33, with the consistency of the results of R19. Clauses (c) and (d) of R33 follow from
`truncated` and `reduced`. -/
structure Inv (s : State) : Prop where
  /-- `KLEN <= KMAX`, R33 (a). -/
  secretFits : s.klen ≤ s.params.kmax
  /-- `TLEN <= TMAX`, R33 (a). -/
  textFits : s.tlen ≤ s.params.tmax
  /-- R33 (b). -/
  emptySlot : s.valid = false → SlotEmpty s
  /-- `DBC = DT(DIGEST)`, R19. -/
  truncated : s.dbc = dynTrunc s.digest
  /-- `CODE = REDUCE(DBC, ENG_DIGITS)`, R19. -/
  reduced : s.code = reduce s.dbc s.engDigits
  /-- `ERR` is in `0..5`, R33 (e). -/
  errKnown : s.err.toNat ≤ 5
  /-- `TOVF = 1` implies `TLEN = TMAX`, R33 (f). -/
  overflowFull : s.tovf = true → s.tlen = s.params.tmax

/-- At rest (R8, R69): the script has ended and no command is in flight. -/
def AtRest (s : State) : Prop := s.env.script = [] ∧ s.busy = false

/-- Every turn of a script is an operation the port has (R45). -/
def portTurn : Event → Bool
  | .write off _ => portOffset off
  | .read off => portOffset off
  | .poll => true
  | .reset => true
  | .time _ => true
  | .core => true

/-- The next turn is the core's (R8): the script says so, or it has ended. -/
def CoreNext (s : State) : Prop := s.env.script = [] ∨ ∃ rest, s.env.script = .core :: rest

/-- The next step is a Complete step: the core's turn with a command in flight (R57). -/
def Completes (s : State) : Prop := CoreNext s ∧ s.busy = true

/-- The next step is the Reset step (R150). -/
def ResetNext (s : State) : Prop := ∃ rest, s.env.script = .reset :: rest

/-- The next step is the host's write of `v` at `off` (R43). -/
def WriteNext (s : State) (off : Nat) (v : Word) : Prop := ∃ rest, s.env.script = .write off v :: rest

/-- The host-writable registers other than `STATUS`, whose writes are dropped while `BUSY = 1` (R23, R58). -/
def idleWritable : List Reg := [.cmd, .cfgDigits, .cfgPeriod, .ctrLo, .ctrHi, .ofsLo, .ofsHi]

/-- The statements of a script in which every command is waited for (R155): no bare command, no write to `CMD` by its
offset, and every access one the port has. -/
def Stmt.waitsForCommands : Stmt → Bool
  | .wr off _ => portOffset off && off != Reg.cmd.offset
  | .rd off => portOffset off
  | .reset => true
  | .time _ => true
  | .cmd _ => false
  | .wait _ => true
  | .cmdWait _ _ => true
  | .wr64 _ _ => true
  | .rd64 _ => true
  | .rdDigest => true
  | .puts _ _ => true
  | .loadKey _ _ => true
  | .clrOvr => true
  | .expect off _ => portOffset off
  | .coreTurn => true

/-- The engine instance is the same (R17). -/
def SameSlot (s t : State) : Prop :=
  t.valid = s.valid ∧ t.secret = s.secret ∧ t.engDigits = s.engDigits ∧ t.engPeriod = s.engPeriod

/-- The operand registers and the staged configuration are the same (R14 to R16). -/
def SameOperands (s t : State) : Prop :=
  t.cfgDigits = s.cfgDigits ∧ t.cfgPeriod = s.cfgPeriod ∧ t.ctr = s.ctr ∧ t.ofs = s.ofs

/-- The result registers are the same (R19). -/
def SameResults (s t : State) : Prop :=
  t.code = s.code ∧ t.dbc = s.dbc ∧ t.digest = s.digest ∧ t.ctro = s.ctro ∧ t.tsnap = s.tsnap

/-- The text buffer is the same (R18). -/
def SameText (s t : State) : Prop := t.txt = s.txt ∧ t.tovf = s.tovf

/-- The two hidden registers are the same (R31, R32). -/
def SameHidden (s t : State) : Prop := t.pend = s.pend ∧ t.tlatch = s.tlatch

/-- Two states that differ at most in the bytes of the secret and of the text, not in their number (R29). -/
def SameButSecrets (s t : State) : Prop :=
  t = { s with secret := t.secret, txt := t.txt } ∧ t.klen = s.klen ∧ t.tlen = s.tlen

end Sys2Proof.Machine
end

