-- ==== Sys2Proof/Certificates/Slice0/Obligations.lean ====
section
/-! DEFINITION. The statements about the block, for the provers. Each names the rule or section of spec/ it formalises;
OBLIGATIONS.json lists them. -/

open Sys2Proof Sys2Proof.Machine

/-! ### Encoding -/

/-- R57: a Complete step runs the command `PEND` decodes to. With the script ended, the step is `exec` of it; with a core's
turn at the head of the script, that turn is consumed first. That an ended script gives the core its turn is the model's
choice (DESIGN CHOICE, notes/assumptions/3.md), not R57's. -/
def Obligations.StepRunsDecodedCommand : Prop :=
  ∀ (s : State) (i : Instr), s.busy = true → decode s.pend = .ok i →
    (s.env.script = [] → step s = exec i s) ∧
    (∀ rest, s.env.script = .core :: rest → step s = exec i (s.withScript rest))

/-- R63: a word selects the command of the first and only row with `w & mask = match`; a word of no row is illegal. -/
def Obligations.DecodeFollowsOpcodeTable : Prop :=
  (∀ (w : Word) (r : OpcodeRow), r ∈ opcodeTable → r.selects w = true →
    (∃ i, decode w = .ok i ∧ i.mnemonic = r.mnemonic ∧ ∀ c, i = .putc c → c = immField w) ∧
    ∀ r' ∈ opcodeTable, r'.selects w = true → r' = r) ∧
  (∀ (w : Word) (i : Instr), decode w = .ok i →
    ∃ r ∈ opcodeTable, r.mnemonic = i.mnemonic ∧ r.selects w = true)

/-- R63, R66: decoding and encoding agree in both directions, for every command and every word, so no bit of an encoding is
dropped and each command has one word. -/
def Obligations.DecodeInvertsEncode : Prop :=
  ∀ (w : Word) (i : Instr), decode w = .ok i ↔ encode i = w

/-- R64: the illegal words are those with `rsv != 0`, those with `op != 0x02` and `imm != 0`, and those with another `op`;
there are 264 legal words; an illegal word is accepted like any other and its Complete step fails with `ILLCMD`. That the
step is the Complete step when the script has ended is the model's choice (DESIGN CHOICE, notes/assumptions/3.md). -/
def Obligations.IllegalWordsFailWithIllcmd : Prop :=
  (∀ w : Word, (∃ e, decode w = .error e) ↔
    rsvField w ≠ 0 ∨ (opField w ≠ 0x02 ∧ immField w ≠ 0) ∨
      opField w ∉ ([0x00, 0x01, 0x02, 0x03, 0x04, 0x10, 0x11, 0x12, 0x13] : List Byte)) ∧
  (∃ legal : List Word, legal.Nodup ∧ legal.length = 264 ∧ ∀ w, w ∈ legal ↔ ∃ i, decode w = .ok i) ∧
  (∀ (s : State) (w : Word), s.busy = false →
    (hostWrite Reg.cmd.offset w s).pend = w ∧ (hostWrite Reg.cmd.offset w s).busy = true) ∧
  (∀ (s : State) (e : Illegal), s.busy = true → decode s.pend = .error e →
    (s.env.script = [] → step s = .next { s with err := 5, busy := false }) ∧
    (∀ rest, s.env.script = .core :: rest →
      step s = .next { s.withScript rest with err := 5, busy := false }))

/-- R66's words, and illegal ones of 95_test_vectors.md section 2.5, decode as the spec says. A sanity check. -/
def Obligations.SpelledWordsDecode : Prop :=
  decode 0x00000000 = .ok .nop ∧ decode 0x00000001 = .ok .clrt ∧ decode 0x00004102 = .ok (.putc 0x41) ∧
  decode 0x00000003 = .ok .construct ∧ decode 0x00000004 = .ok .zeroize ∧ decode 0x00000010 = .ok .hotp ∧
  decode 0x00000011 = .ok .ctrgen ∧ decode 0x00000012 = .ok .totp ∧ decode 0x00000013 = .ok .totpo ∧
  decode 0x00014102 = .error .reservedBits ∧ decode 0x00000110 = .error .immediate ∧
  decode 0x00000005 = .error .opcode

/-! ### The commands: where each completes, with its whole next state (so its frame too) -/

/-- R70: `NOP` writes `ERR` and `BUSY` and nothing else; `TLATCH` is overwritten at its Accept like for every command. -/
def Obligations.NopClearsErr : Prop :=
  decode 0x00000000 = .ok .nop ∧
  (∀ s : State, exec .nop s = .next { s with err := 0, busy := false }) ∧
  (∀ s : State, s.busy = false → (hostWrite Reg.cmd.offset 0x00000000 s).tlatch = now s)

/-- R71: `CLRT` empties the text buffer and touches nothing else but `ERR` and `BUSY`. -/
def Obligations.ClrtEmptiesText : Prop :=
  decode 0x00000001 = .ok .clrt ∧
  ∀ s : State, exec .clrt s = .next { s with txt := [], tovf := false, err := 0, busy := false }

/-- R72: `PUTC` appends any byte while `TLEN < TMAX`; on a full buffer the character is dropped and `TOVF` is set. -/
def Obligations.PutcAppendsOrOverflows : Prop :=
  (∀ c : Byte, decode ((c.setWidth 32 <<< 8) ||| 0x02) = .ok (.putc c)) ∧
  (∀ (c : Byte) (s : State), s.tlen < s.params.tmax →
    exec (.putc c) s = .next { s with txt := s.txt ++ [c], err := 0, busy := false }) ∧
  (∀ (c : Byte) (s : State), ¬ s.tlen < s.params.tmax →
    exec (.putc c) s = .next { s with tovf := true, err := 2, busy := false })

/-- R78: `CONSTRUCT` destroys the old instance, decodes the text unless it overflowed, installs the key with the staged
configuration verbatim, and consumes the text in every case. -/
def Obligations.ConstructInstallsOrEmptiesSlot : Prop :=
  decode 0x00000003 = .ok .construct ∧
  (∀ (s : State) (key : List Byte), s.tovf = false → dec32 s.txt = some key →
    exec .construct s = .next { s with
      valid := true, secret := key, engDigits := s.cfgDigits, engPeriod := s.cfgPeriod
      code := 0, dbc := 0, digest := Vector.replicate 20 0, ctro := 0, tsnap := 0
      txt := [], tovf := false, err := 0, busy := false }) ∧
  (∀ s : State, s.tovf = true →
    exec .construct s = .next { s with
      valid := false, secret := [], engDigits := 0, engPeriod := 0
      code := 0, dbc := 0, digest := Vector.replicate 20 0, ctro := 0, tsnap := 0
      txt := [], tovf := false, err := 2, busy := false }) ∧
  (∀ s : State, s.tovf = false → dec32 s.txt = none →
    exec .construct s = .next { s with
      valid := false, secret := [], engDigits := 0, engPeriod := 0
      code := 0, dbc := 0, digest := Vector.replicate 20 0, ctro := 0, tsnap := 0
      txt := [], tovf := false, err := 1, busy := false })

/-- R79 and R77: `Destroy()` clears the slot, the results and every byte of the secret store and leaves the rest alone;
`ZEROIZE` also clears the text, and nothing else but `ERR` and `BUSY`. Written while `BUSY = 1` it is dropped, and while the
core is busy no step of the environment but Reset removes a secret. -/
def Obligations.ZeroizeClearsSecrets : Prop :=
  decode 0x00000004 = .ok .zeroize ∧
  (∀ s : State, exec .zeroize s = .next { s with
      valid := false, secret := [], engDigits := 0, engPeriod := 0
      code := 0, dbc := 0, digest := Vector.replicate 20 0, ctro := 0, tsnap := 0
      txt := [], tovf := false, err := 0, busy := false }) ∧
  (∀ s : State, destroy s = { s with
      valid := false, secret := [], engDigits := 0, engPeriod := 0
      code := 0, dbc := 0, digest := Vector.replicate 20 0, ctro := 0, tsnap := 0 }) ∧
  (∀ (s : State) (i : Nat), (destroy s).klen = 0 ∧ (destroy s).secretStore i = 0) ∧
  (∀ s : State, s.busy = true → hostWrite Reg.cmd.offset 0x00000004 s = { s with ovr := true }) ∧
  (∀ (s t : State) (e : Event), s.busy = true → e ≠ .core → e ≠ .reset → envTurn e s = .next t → t.secret = s.secret)

/-- R114: `HOTP` on an empty slot fails with `NOENG`; on a valid instance it always succeeds and writes the whole pipeline's
results for `CTR`. -/
def Obligations.HotpComputesCode : Prop :=
  decode 0x00000010 = .ok .hotp ∧
  (∀ s : State, s.valid = false → exec .hotp s = .next { s with err := 3, busy := false }) ∧
  (∀ s : State, s.valid = true → exec .hotp s = .next { s with
      digest := hmacSha1 s.secret (bytes64 s.ctr)
      dbc := dynTrunc (hmacSha1 s.secret (bytes64 s.ctr))
      code := reduce (dynTrunc (hmacSha1 s.secret (bytes64 s.ctr))) s.engDigits
      ctro := s.ctr, err := 0, busy := false })

/-- R122: `CTRGEN` derives the counter from the time latched at its Accept and hashes nothing. -/
def Obligations.CtrgenDerivesCounter : Prop :=
  decode 0x00000011 = .ok .ctrgen ∧
  (∀ s : State, s.busy = false → (hostWrite Reg.cmd.offset (encode .ctrgen) s).tlatch = now s) ∧
  (∀ s : State, s.valid = false → exec .ctrgen s = .next { s with err := 3, busy := false }) ∧
  (∀ s : State, s.valid = true → s.engPeriod = 0 → exec .ctrgen s = .next { s with err := 4, busy := false }) ∧
  (∀ s : State, s.valid = true → s.engPeriod ≠ 0 → exec .ctrgen s = .next { s with
      ctro := derive s.tlatch s.engPeriod s.ofs, tsnap := s.tlatch, err := 0, busy := false })

/-- R123: `TOTP` runs the pipeline for the counter of the latched time, whatever `OFS` and `CTR` hold. -/
def Obligations.TotpComputesCurrentCode : Prop :=
  decode 0x00000012 = .ok .totp ∧
  (∀ s : State, s.busy = false → (hostWrite Reg.cmd.offset (encode .totp) s).tlatch = now s) ∧
  (∀ s : State, s.valid = false → exec .totp s = .next { s with err := 3, busy := false }) ∧
  (∀ s : State, s.valid = true → s.engPeriod = 0 → exec .totp s = .next { s with err := 4, busy := false }) ∧
  (∀ (s : State) (c : DWord), s.valid = true → s.engPeriod ≠ 0 → c = derive s.tlatch s.engPeriod 0 →
    exec .totp s = .next { s with
      digest := hmacSha1 s.secret (bytes64 c)
      dbc := dynTrunc (hmacSha1 s.secret (bytes64 c))
      code := reduce (dynTrunc (hmacSha1 s.secret (bytes64 c))) s.engDigits
      ctro := c, tsnap := s.tlatch, err := 0, busy := false })

/-- R124: `TOTPO` is `TOTP` with the offset `OFS`; with `OFS = 0` the two are indistinguishable. -/
def Obligations.TotpoComputesOffsetCode : Prop :=
  decode 0x00000013 = .ok .totpo ∧
  (∀ s : State, s.busy = false → (hostWrite Reg.cmd.offset (encode .totpo) s).tlatch = now s) ∧
  (∀ s : State, s.valid = false → exec .totpo s = .next { s with err := 3, busy := false }) ∧
  (∀ s : State, s.valid = true → s.engPeriod = 0 → exec .totpo s = .next { s with err := 4, busy := false }) ∧
  (∀ (s : State) (c : DWord), s.valid = true → s.engPeriod ≠ 0 → c = derive s.tlatch s.engPeriod s.ofs →
    exec .totpo s = .next { s with
      digest := hmacSha1 s.secret (bytes64 c)
      dbc := dynTrunc (hmacSha1 s.secret (bytes64 c))
      code := reduce (dynTrunc (hmacSha1 s.secret (bytes64 c))) s.engDigits
      ctro := c, tsnap := s.tlatch, err := 0, busy := false }) ∧
  (∀ s : State, s.ofs = 0 → exec .totpo s = exec .totp s)

/-- Section 4 of 10_state.md (the table of which command touches what): what each command leaves as it was. Registers and
texts a command is not listed for are unchanged, and no command touches the operands, the hidden registers, `OVR`, the
parameters or the environment. -/
def Obligations.CommandFrame : Prop :=
  ∀ (i : Instr) (s t : State), exec i s = .next t →
    t.params = s.params ∧ t.env = s.env ∧ t.ovr = s.ovr ∧ SameOperands s t ∧ SameHidden s t ∧ t.busy = false ∧
    (i ∉ [.construct, .zeroize] → SameSlot s t) ∧
    (i ∉ [.clrt, .construct, .zeroize] → (∀ c, i ≠ .putc c) → SameText s t) ∧
    (i ∉ [.construct, .zeroize, .hotp, .totp, .totpo] → t.digest = s.digest ∧ t.dbc = s.dbc ∧ t.code = s.code) ∧
    (i ∉ [.construct, .zeroize, .hotp, .ctrgen, .totp, .totpo] → t.ctro = s.ctro) ∧
    (i ∉ [.construct, .zeroize, .ctrgen, .totp, .totpo] → t.tsnap = s.tsnap)

/-- Section 1 and 2 of 60_exceptions.md (the outcome table and the priority of causes): every command completes, and it
reports each error exactly on that error's cause, `TXTOVF` before `DECODE` and `NOENG` before `PERIOD0`. -/
def Obligations.EveryOutcomeHasItsCause : Prop :=
  ∀ (i : Instr) (s : State), ∃ t, exec i s = .next t ∧ t.busy = false ∧
    (t.err = 1 ↔ i = .construct ∧ s.tovf = false ∧ dec32 s.txt = none) ∧
    (t.err = 2 ↔ (∃ c, i = .putc c ∧ s.params.tmax ≤ s.tlen) ∨ (i = .construct ∧ s.tovf = true)) ∧
    (t.err = 3 ↔ i ∈ [.hotp, .ctrgen, .totp, .totpo] ∧ s.valid = false) ∧
    (t.err = 4 ↔ i ∈ [.ctrgen, .totp, .totpo] ∧ s.valid = true ∧ s.engPeriod = 0) ∧
    t.err.toNat ≤ 4

/-- Section 2 of 60_exceptions.md (error entry): a failing command makes only the changes its rule lists before the `fail`,
then `ERR` and `BUSY`. -/
def Obligations.FailingCommandChangesNothingElse : Prop :=
  ∀ (i : Instr) (s t : State), exec i s = .next t → t.err ≠ 0 →
    (i ≠ .construct → SameResults s t ∧ SameSlot s t) ∧
    (i ≠ .construct → (∀ c, i ≠ .putc c) → t = { s with err := t.err, busy := false }) ∧
    (∀ c, i = .putc c → t = { s with tovf := true, err := 2, busy := false }) ∧
    (i = .construct → t = { clearText (destroy s) with err := t.err, busy := false })

/-! ### The port -/

/-- R42 with the content column of R41: what a read returns for every mapped register, 0 for `CMD` and for every unmapped
offset; a read changes nothing of the block, in either phase. What the step does to the environment's fields (the turn
consumed, the record `seen`) is the model's choice (DESIGN CHOICE, notes/assumptions/3.md). -/
def Obligations.HostReadReturnsRegister : Prop :=
  (∀ s : State,
    hostRead s 0x00 = 0 ∧ hostRead s 0x04 = statusWord s ∧ hostRead s 0x08 = s.cfgDigits ∧
    hostRead s 0x0C = s.cfgPeriod ∧ hostRead s 0x10 = s.ctr.extractLsb' 0 32 ∧
    hostRead s 0x14 = s.ctr.extractLsb' 32 32 ∧ hostRead s 0x18 = s.ofs.extractLsb' 0 32 ∧
    hostRead s 0x1C = s.ofs.extractLsb' 32 32 ∧ hostRead s 0x20 = s.code ∧ hostRead s 0x24 = s.dbc ∧
    hostRead s 0x28 = s.ctro.extractLsb' 0 32 ∧ hostRead s 0x2C = s.ctro.extractLsb' 32 32 ∧
    hostRead s 0x30 = s.tsnap.extractLsb' 0 32 ∧ hostRead s 0x34 = s.tsnap.extractLsb' 32 32 ∧
    hostRead s 0x38 = lenWord s ∧ hostRead s 0x3C = s.engDigits ∧ hostRead s 0x40 = s.engPeriod ∧
    hostRead s 0x44 = be32 s.digest[0] s.digest[1] s.digest[2] s.digest[3] ∧
    hostRead s 0x48 = be32 s.digest[4] s.digest[5] s.digest[6] s.digest[7] ∧
    hostRead s 0x4C = be32 s.digest[8] s.digest[9] s.digest[10] s.digest[11] ∧
    hostRead s 0x50 = be32 s.digest[12] s.digest[13] s.digest[14] s.digest[15] ∧
    hostRead s 0x54 = be32 s.digest[16] s.digest[17] s.digest[18] s.digest[19]) ∧
  (∀ (s : State) (off : Nat), 0x54 < off → hostRead s off = 0) ∧
  (∀ (s : State) (off : Nat) (rest : List Event), s.env.script = .read off :: rest → portOffset off = true →
    step s = .next { s with env := { s.env with script := rest, seen := ⟨off, hostRead s off⟩ :: s.env.seen } })

/-- R43: what a write does at each host-writable offset, in both phases. -/
def Obligations.HostWriteStoresOrDrops : Prop :=
  (∀ (s : State) (v : Word), s.busy = false →
    hostWrite 0x00 v s = accept v s ∧
    hostWrite 0x08 v s = { s with cfgDigits := v } ∧ hostWrite 0x0C v s = { s with cfgPeriod := v } ∧
    hostWrite 0x10 v s = { s with ctr := hiHalf s.ctr ++ v } ∧ hostWrite 0x14 v s = { s with ctr := v ++ loHalf s.ctr } ∧
    hostWrite 0x18 v s = { s with ofs := hiHalf s.ofs ++ v } ∧ hostWrite 0x1C v s = { s with ofs := v ++ loHalf s.ofs }) ∧
  (∀ (s : State) (v : Word), s.busy = true → ∀ off ∈ [0x00, 0x08, 0x0C, 0x10, 0x14, 0x18, 0x1C],
    hostWrite off v s = { s with ovr := true }) ∧
  (∀ (s : State) (v : Word),
    hostWrite 0x04 v s = (if v[3] then { s with ovr := false } else s)) ∧
  (∀ (s : State) (v : Word) (off : Nat), off ∉ [0x00, 0x04, 0x08, 0x0C, 0x10, 0x14, 0x18, 0x1C] →
    hostWrite off v s = s)

/-- R44: writes to read-only registers and to unmapped offsets have no effect in either phase, reads of unmapped offsets
return 0, and of a value written to `STATUS` only bit 3 counts. -/
def Obligations.ReadOnlyAndUnmappedWritesIgnored : Prop :=
  (∀ (s : State) (v : Word) (off : Nat), 0x20 ≤ off → hostWrite off v s = s) ∧
  (∀ (s : State) (off : Nat), 0x58 ≤ off → hostRead s off = 0) ∧
  (∀ (s : State) (v v' : Word), v[3] = v'[3] → hostWrite 0x04 v s = hostWrite 0x04 v' s)

/-- R48: the `_LO` register, at the lower offset, holds bits 31:0 and the `_HI` register bits 63:32, for each of the four
pairs; a write of one half leaves the other, and `RD64` puts the two together. -/
def Obligations.HalvesMakeTheRegister : Prop :=
  (∀ s : State,
    (hostRead s 0x10).toNat + 2 ^ 32 * (hostRead s 0x14).toNat = s.ctr.toNat ∧
    (hostRead s 0x18).toNat + 2 ^ 32 * (hostRead s 0x1C).toNat = s.ofs.toNat ∧
    (hostRead s 0x28).toNat + 2 ^ 32 * (hostRead s 0x2C).toNat = s.ctro.toNat ∧
    (hostRead s 0x30).toNat + 2 ^ 32 * (hostRead s 0x34).toNat = s.tsnap.toNat) ∧
  (∀ (x : DWord) (v : Word),
    loHalf (setLo x v) = v ∧ hiHalf (setLo x v) = hiHalf x ∧
    hiHalf (setHi x v) = v ∧ loHalf (setHi x v) = loHalf x ∧
    rd64Value (loHalf x) (hiHalf x) = x)

/-- R20: the layout of `STATUS`; a read has no side effect and a write reaches `OVR` alone. -/
def Obligations.StatusLayout : Prop :=
  (∀ s : State, (statusWord s)[0] = s.busy ∧ (statusWord s)[1] = s.valid ∧ (statusWord s)[2] = s.tovf ∧
    (statusWord s)[3] = s.ovr ∧ (statusWord s).extractLsb' 4 4 = s.err ∧ (statusWord s).extractLsb' 8 24 = 0) ∧
  (∀ s : State, hostRead s Reg.status.offset = statusWord s) ∧
  (∀ (s : State) (v : Word), hostWrite Reg.status.offset v s = { s with ovr := s.ovr && !v[3] }) ∧
  statusWord State.reset = 0

/-- R25: `LEN` shows both lengths, and both fit its 16-bit fields in every state that meets the invariant; it is
read-only. -/
def Obligations.LenShowsBothLengths : Prop :=
  (∀ s : State, Inv s →
    ((hostRead s Reg.len.offset).extractLsb' 0 16).toNat = s.klen ∧
    ((hostRead s Reg.len.offset).extractLsb' 16 16).toNat = s.tlen) ∧
  (∀ p : Params, p.kmax ≤ p.tmax ∧ p.tmax ≤ 65528) ∧
  (∀ (s : State) (v : Word), hostWrite Reg.len.offset v s = s) ∧
  (∀ s : State, s.valid = false → Inv s → s.klen = 0)

/-- R49: the packing of the digest into five words, first byte on top; it is SHA-1's own word order, and the five words
read side by side spell the digest. -/
def Obligations.DigestWordsSpellTheDigest : Prop :=
  (∀ d : Digest,
    (digestWord d 0).extractLsb' 24 8 = d[0] ∧ (digestWord d 4).extractLsb' 0 8 = d[19] ∧
    (∀ n : Fin 5, digestWord d n = be32 d[4 * n.val] d[4 * n.val + 1] d[4 * n.val + 2] d[4 * n.val + 3]) ∧
    rdDigestValue [digestWord d 0, digestWord d 1, digestWord d 2, digestWord d 3, digestWord d 4] = d.toList) ∧
  (∀ h : Chain, digestWord (digestOfChain h) 0 = h.a ∧ digestWord (digestOfChain h) 1 = h.b ∧
    digestWord (digestOfChain h) 2 = h.c ∧ digestWord (digestOfChain h) 3 = h.d ∧ digestWord (digestOfChain h) 4 = h.e)

/-- R45: an access whose offset is not a multiple of 4 or is above `0xFC` is refused; every other access is a step. The
script that makes the access and the refusal's form are the model's (notes/assumptions/3.md and 7.md). -/
def Obligations.PortRefusesWhatItLacks : Prop :=
  ∀ (s : State) (off : Nat) (v : Word) (rest : List Event),
    (s.env.script = .write off v :: rest ∨ s.env.script = .read off :: rest) →
    ((off % 4 ≠ 0 ∨ 0xFC < off) → step s = .refused (.notAPortOperation off)) ∧
    (off % 4 = 0 → off ≤ 0xFC → ∃ t, step s = .next t)

/-- R56: Accept latches the word, whatever it is, and the one draw of the time input, enters `BUSY`, and does nothing else.
The draw is the script's time where it has fixed one, and otherwise free (the counter of draws is the model's,
notes/assumptions/2.md). -/
def Obligations.AcceptLatchesWordAndTime : Prop :=
  ∀ (s : State) (w : Word), s.busy = false →
    hostWrite Reg.cmd.offset w s = { s with
      pend := w, tlatch := now s, busy := true, env := { s.env with draws := s.env.draws + 1 } } ∧
    (∀ v, s.env.timeIn = some v → now s = v) ∧
    (s.env.timeIn = none → now s = Config.timeInput s.env.draws)

/-- R58: a write to any host-writable register but `STATUS` made while `BUSY = 1` only sets `OVR`. -/
def Obligations.BusyWritesAreDropped : Prop :=
  ∀ (s : State) (r : Reg) (v : Word), s.busy = true → r ∈ idleWritable →
    hostWrite r.offset v s = { s with ovr := true }

/-! ### Rules of the whole machine -/

/-- R34: the state after Reset, element by element. The parameters are the default ones of R4 and the environment's fields
are the model's own (notes/assumptions/3.md); the statement says nothing of them. -/
def Obligations.ResetValues : Prop :=
  State.reset.busy = false ∧ State.reset.pend = 0 ∧ State.reset.tlatch = 0 ∧ State.reset.cfgDigits = 6 ∧
  State.reset.cfgPeriod = 30 ∧ State.reset.ctr = 0 ∧ State.reset.ofs = 0 ∧ State.reset.valid = false ∧
  State.reset.secret = [] ∧ State.reset.klen = 0 ∧ (∀ i, State.reset.secretStore i = 0) ∧
  State.reset.engDigits = 0 ∧ State.reset.engPeriod = 0 ∧ State.reset.txt = [] ∧ State.reset.tlen = 0 ∧
  State.reset.tovf = false ∧ State.reset.code = 0 ∧ State.reset.dbc = 0 ∧
  (∀ i : Fin 20, State.reset.digest[i] = 0) ∧ State.reset.ctro = 0 ∧ State.reset.tsnap = 0 ∧ State.reset.err = 0 ∧
  State.reset.ovr = false ∧ hostRead State.reset Reg.status.offset = 0 ∧ hostRead State.reset Reg.len.offset = 0

/-- Section 1 of 70_reset_and_hazards.md: a Reset step in either phase gives every element of the block its reset value,
so a command in flight never happens; the time input, the host and the parameters are left alone. -/
def Obligations.ResetStepDiscardsEverything : Prop :=
  ∀ (s : State) (rest : List Event), s.env.script = .reset :: rest →
    step s = .next { State.reset with params := s.params, env := { s.env with script := rest } }

/-- R11: the phase changes only by Accept, Complete and Reset, and a Complete step always ends it. The last clause, that a
core's turn in `IDLE` is a step that changes nothing, is the model's choice (DESIGN CHOICE, notes/assumptions/4.md), and so
is that an ended script gives the core its turn (DESIGN CHOICE, notes/assumptions/3.md). -/
def Obligations.PhaseChangesOnlyByAcceptCompleteReset : Prop :=
  ∀ s t : State, step s = .next t →
    (s.busy = false → t.busy = true → ∃ v, WriteNext s Reg.cmd.offset v ∧ t.pend = v) ∧
    (s.busy = true → t.busy = false → Completes s ∨ ResetNext s) ∧
    (Completes s → t.busy = false) ∧ (ResetNext s → t.busy = false) ∧
    (CoreNext s → s.busy = false → t = { s with env := t.env })

/-- Section 3 of 10_state.md (the slot): no host write and no command but `CONSTRUCT` and `ZEROIZE` changes the engine
instance, and otherwise only Reset does. Which turn is next is the script's, and the core's when it has ended: the model's
choice (notes/assumptions/3.md). -/
def Obligations.SlotChangesOnlyByConstructZeroizeReset : Prop :=
  ∀ s t : State, step s = .next t → ¬ SameSlot s t →
    ResetNext s ∨ (Completes s ∧ (decode s.pend = .ok .construct ∨ decode s.pend = .ok .zeroize))

/-- Sections 3 of 10_state.md (`CTR`, `OFS`, `CFG_*`): no command writes an operand or the staged configuration; they
change only by a host write accepted while `IDLE`, and by Reset. Which turn is next is the script's: the model's choice
(notes/assumptions/3.md). -/
def Obligations.OperandsChangeOnlyByIdleWrites : Prop :=
  ∀ s t : State, step s = .next t → ¬ SameOperands s t →
    ResetNext s ∨
    (s.busy = false ∧ ∃ r v, r ∈ [Reg.cfgDigits, .cfgPeriod, .ctrLo, .ctrHi, .ofsLo, .ofsHi] ∧ WriteNext s r.offset v)

/-- Section 5 of 20_memory.md (reads while busy): from Accept until the Complete step or Reset, nothing of the block
changes but `OVR`, so every read but that bit is what it was at the Accept. Which turn is next is the script's, and the
core's when it has ended: the model's choice (notes/assumptions/3.md). -/
def Obligations.OnlyOvrChangesWhileBusy : Prop :=
  ∀ s t : State, s.busy = true → ¬ CoreNext s → ¬ ResetNext s → step s = .next t →
    t = { s with ovr := t.ovr, env := t.env } ∧
    ∀ off, off ≠ Reg.status.offset → hostRead t off = hostRead s off

/-- R23: `OVR` is set exactly by a dropped write, and cleared exactly by Reset and by a write of 1 to its bit, in either
phase; no command sets or clears it. -/
def Obligations.OvrIsStickyAndWriteOneToClear : Prop :=
  ∀ s t : State, step s = .next t →
    (∀ r v, r ∈ idleWritable → WriteNext s r.offset v → s.busy = true →
      t = { s with ovr := true, env := t.env }) ∧
    (s.ovr = false → t.ovr = true → s.busy = true ∧ ∃ r v, r ∈ idleWritable ∧ WriteNext s r.offset v) ∧
    (s.ovr = true → t.ovr = false → ResetNext s ∨ ∃ v, WriteNext s Reg.status.offset v ∧ v[3] = true) ∧
    (∀ v, WriteNext s Reg.status.offset v → v[3] = true → t.ovr = false) ∧
    (ResetNext s → t.ovr = false)

/-- R24: `ERR` is written by every Complete step with an outcome code of at most 5, cleared by Reset, and changed by
nothing else. The last clause completes a `NOP` because the script has ended: that the core's turn comes then is the model's
choice (DESIGN CHOICE, notes/assumptions/3.md). -/
def Obligations.ErrIsTheLastOutcome : Prop :=
  (∀ s t : State, step s = .next t →
    (Completes s → ∃ o : ErrCode, t.err = o.code) ∧
    (ResetNext s → t.err = 0) ∧
    (¬ Completes s → ¬ ResetNext s → t.err = s.err)) ∧
  (∀ o : ErrCode, o.code.toNat ≤ 5) ∧
  (∀ s : State, s.busy = true → s.env.script = [] → decode s.pend = .ok .nop → ∃ t, step s = .next t ∧ t.err = 0)

/-- The model's own (notes/assumptions/1.md): no step changes the parameters of the implementation. -/
def Obligations.NoStepChangesTheParameters : Prop :=
  ∀ s t : State, step s = .next t → t.params = s.params

/-- The invariants of section 5 of 10_state.md hold after Reset. -/
def Obligations.ResetMeetsInv : Prop := Inv State.reset

/-- The invariants of section 5 of 10_state.md, with the consistency of the results, are kept by every step from every
state that meets them. -/
def Obligations.StepKeepsInv : Prop :=
  ∀ s t : State, Inv s → step s = .next t → Inv t

/-- Clauses (c) and (d) of section 5 of 10_state.md: the top bit of `DBC` is 0, `CODE <= DBC`, and a code of at most nine
digits is below `10^ENG_DIGITS`. -/
def Obligations.InvBoundsTheResults : Prop :=
  ∀ s : State, Inv s →
    s.dbc[31] = false ∧ s.code.toNat ≤ s.dbc.toNat ∧
    (s.engDigits.toNat ≤ 9 → s.code.toNat < 10 ^ s.engDigits.toNat)

/-- Section 5 of 00_scope.md (fairness) and section 5 of 30_encoding.md (end of a run): from every state, a script of
port operations runs to its end and one turn later the block is at rest, whatever was in flight, and then it stays there.
That the core's turn comes when the script has ended is the model's choice (DESIGN CHOICE, notes/assumptions/3.md), and so
is that a core's turn in `IDLE` leaves the state at rest (DESIGN CHOICE, notes/assumptions/4.md). -/
def Obligations.EveryScriptComesToRest : Prop :=
  (∀ s : State, s.env.script.all portTurn = true →
    ∃ t, Host.Core.run Sys2Proof.core (s.env.script.length + 1) s = .next t ∧ AtRest t) ∧
  (∀ s : State, AtRest s → step s = .next s)

/-- Section 3 of 70_reset_and_hazards.md (write while busy): a script in which every command is waited for never loses a
write and never sets `OVR`, however often each wait polls. That every wait carries a number of polls and holds the core's
turn is the model's choice (DESIGN CHOICE, notes/assumptions/13.md). -/
def Obligations.WaitedScriptsNeverOverrun : Prop :=
  ∀ (s : State) (script : List Stmt), s.busy = false → s.ovr = false → script.all Stmt.waitsForCommands = true →
    ∃ t, Host.Core.run Sys2Proof.core (scriptTurns script).length (s.withScript (scriptTurns script)) = .next t ∧
      t.busy = false ∧ t.ovr = false ∧ t.env.script = []

/-- Section 4 of 30_encoding.md (`WAIT`): it reads `STATUS` until it gives `s[0] = 0` and no further. Begun in `IDLE` it reads
once; begun in `BUSY` it reads `polls` times with `s[0] = 1`, the command in flight completes, and one more read, with
`s[0] = 0`, ends it. Which of the reads come before the core's turn is the model's choice (DESIGN CHOICE,
notes/assumptions/13.md). -/
def Obligations.WaitReadsStatusUntilIdle : Prop :=
  (∀ s : State, (statusWord s)[0] = s.busy) ∧
  (∀ (s : State) (polls : Nat), s.busy = false →
    Host.Core.run Sys2Proof.core (waitTurns polls).length (s.withScript (waitTurns polls)) =
      .next { s with env := { s.env with script := [], seen := ⟨Reg.status.offset, statusWord s⟩ :: s.env.seen } }) ∧
  (∀ (s : State) (polls : Nat), s.busy = true →
    ∃ t, complete (s.withScript []) = .next t ∧ t.busy = false ∧
      Host.Core.run Sys2Proof.core (waitTurns polls).length (s.withScript (waitTurns polls)) =
        .next { t with env := { t.env with
          seen := ⟨Reg.status.offset, statusWord t⟩ ::
            (List.replicate polls ⟨Reg.status.offset, statusWord s⟩ ++ s.env.seen) } })

/-- Section 4 of 30_encoding.md (`EXPECT`): it is a read, which changes nothing of the block, and its claim is that the read
gave the value. The record `seen` of what was read is the model's choice (notes/assumptions/3.md). -/
def Obligations.ExpectReadsAndClaims : Prop :=
  ∀ (s : State) (off : Nat) (v : Word), portOffset off = true →
    ∃ t, Host.Core.run Sys2Proof.core (Stmt.expect off v).turns.length (s.withScript (Stmt.expect off v).turns) = .next t ∧
      t = { s with env := t.env } ∧
      ((Stmt.expect off v).claim t = true ↔ hostRead s off = v) ∧
      (claimsHold [.expect off v] s = true ↔ hostRead s off = v)

/-! ### Secrecy -/

/-- Section 5 of 10_state.md (the secret is write-only): no read depends on the bytes of the secret or of the text. -/
def Obligations.ReadsRevealNoSecretByte : Prop :=
  ∀ (s t : State) (off : Nat), SameButSecrets s t → hostRead t off = hostRead s off

/-- The same section: two blocks that differ only in those bytes stay so, with the same reads, under every step but the
completion of a command that computes from them. Which turn is next is the script's, and the core's when it has ended: the
model's choice (notes/assumptions/3.md). -/
def Obligations.SecretsFlowOnlyThroughHashingAndConstruct : Prop :=
  ∀ s t s' : State, SameButSecrets s t →
    ¬ (Completes s ∧ ∃ i ∈ [Instr.construct, .hotp, .totp, .totpo], decode s.pend = .ok i) →
    step s = .next s' → ∃ t', step t = .next t' ∧ SameButSecrets s' t'

/-! ### Base32 -/

/-- R74: `DEC32`. When it fails, how long its result is, and every bit of its result: bit `j` of the output, most
significant first, is bit `j` of the string of the characters' five-bit values. -/
def Obligations.Dec32DecodesBitByBit : Prop :=
  (∀ s : List Byte, dec32 s = none ↔
    s.length % 8 ≠ 0 ∨ padCount s ∉ [0, 1, 3, 4, 6] ∨
      ∃ c ∈ s.take (s.length - padCount s), base32Val c = none) ∧
  (∀ s : List Byte,
    (∀ c ∈ s.drop (s.length - padCount s), c = padChar) ∧ padCount s ≤ s.length ∧
    ∀ p, p ≤ s.length → (∀ c ∈ s.drop (s.length - p), c = padChar) → p ≤ padCount s) ∧
  (∀ s r : List Byte, dec32 s = some r →
    r.length = 5 * (s.length - padCount s) / 8 ∧
    (padCount s = 0 → r.length = 5 * (s.length / 8)) ∧
    (padCount s = 1 → r.length + 1 = 5 * (s.length / 8)) ∧
    (padCount s = 3 → r.length + 2 = 5 * (s.length / 8)) ∧
    (padCount s = 4 → r.length + 3 = 5 * (s.length / 8)) ∧
    (padCount s = 6 → r.length + 4 = 5 * (s.length / 8)) ∧
    ∀ j, j < 8 * r.length →
      (r.getD (j / 8) 0).getLsbD (7 - j % 8) = ((base32Val (s.getD (j / 5) 0)).getD 0).getLsbD (4 - j % 5))

/-- R73: the alphabet. `'A'..'Z'` are 0 to 25, `'2'..'7'` are 26 to 31, every other byte has no value, and the spelling of
a value has that value. -/
def Obligations.Base32Alphabet : Prop :=
  (∀ c : Byte, 0x41 ≤ c.toNat → c.toNat ≤ 0x5A → ∃ v, base32Val c = some v ∧ v.toNat = c.toNat - 0x41) ∧
  (∀ c : Byte, 0x32 ≤ c.toNat → c.toNat ≤ 0x37 → ∃ v, base32Val c = some v ∧ v.toNat = c.toNat - 0x32 + 26) ∧
  (∀ c : Byte, ¬ (0x41 ≤ c.toNat ∧ c.toNat ≤ 0x5A) → ¬ (0x32 ≤ c.toNat ∧ c.toNat ≤ 0x37) → base32Val c = none) ∧
  (∀ v : BitVec 5, base32Val (base32Char v) = some v) ∧
  (∀ v : BitVec 5, (("ABCDEFGHIJKLMNOPQRSTUVWXYZ234567".toList.map Char.toNat)[v.toNat]?) = some (base32Char v).toNat)

/-- Section 4 of 40_secret_load.md, law (a): the decoder undoes the reference encoder, whose text has eight characters for
every five bytes begun. -/
def Obligations.Dec32UndoesEnc32 : Prop :=
  ∀ b : List Byte, dec32 (enc32 b) = some b ∧ (enc32 b).length = 8 * ((b.length + 4) / 5)

/-- Section 4 of 40_secret_load.md, laws (a) and (b): from every idle state, `LOADKEY` of the reference encoding of any key
that fits the store installs exactly that key with the staged configuration, however often each wait polls. The polls and
the core's turn inside each wait are the model's choice (DESIGN CHOICE, notes/assumptions/13.md). -/
def Obligations.LoadKeyInstallsTheKey : Prop :=
  ∀ (s : State) (key : List Byte) (polls : Nat), s.busy = false → key.length ≤ s.params.kmax →
    ∃ t, Host.Core.run Sys2Proof.core (Stmt.loadKey (enc32 key) polls).turns.length
        (s.withScript (Stmt.loadKey (enc32 key) polls).turns) = .next t ∧
      t.valid = true ∧ t.secret = key ∧ t.engDigits = s.cfgDigits ∧ t.engPeriod = s.cfgPeriod ∧
      t.err = 0 ∧ t.busy = false ∧ t.txt = [] ∧ t.env.script = []

/-! ### SHA-1 and HMAC -/

/-- R92: the padding of a message is the message, the byte `0x80`, the fewest zero bytes that fill a block, and the
message's length in bits; it is a whole number of 64-byte blocks. -/
def Obligations.PadFillsWholeBlocks : Prop :=
  ∀ m : List Byte, ∃ z : Nat, (z : Int) = (55 - (m.length : Int)) % 64 ∧
    pad m = m ++ [0x80] ++ List.replicate z 0 ++ bytes64 (BitVec.ofNat 64 (8 * m.length)) ∧
    (pad m).length = 64 * ((m.length + 8) / 64 + 1) ∧
    ∀ z', (m.length + 1 + z' + 8) % 64 = 0 → z ≤ z'

/-- R94: the message schedule, word by word. -/
def Obligations.ScheduleFollowsRecurrence : Prop :=
  ∀ x : List Byte, x.length = 64 →
    (schedule x).length = 80 ∧
    (∀ t, t < 16 → (schedule x).getD t 0 =
      be32 (x.getD (4 * t) 0) (x.getD (4 * t + 1) 0) (x.getD (4 * t + 2) 0) (x.getD (4 * t + 3) 0)) ∧
    (∀ t, 16 ≤ t → t < 80 → (schedule x).getD t 0 =
      rotl32 ((schedule x).getD (t - 3) 0 ^^^ (schedule x).getD (t - 8) 0 ^^^ (schedule x).getD (t - 14) 0
        ^^^ (schedule x).getD (t - 16) 0) 1)

/-- R98: the block key is 64 bytes; a key of at most 64 bytes stands in front as it is, a longer one is hashed first, and
the rest is zero. -/
def Obligations.BlockKeyIsOneBlock : Prop :=
  ∀ k : List Byte, (blockKey k).length = 64 ∧
    (k.length ≤ 64 → (blockKey k).take k.length = k ∧ ∀ b ∈ (blockKey k).drop k.length, b = 0) ∧
    (64 < k.length → (blockKey k).take 20 = (sha1 k).toList ∧ ∀ b ∈ (blockKey k).drop 20, b = 0)

/-- Section 3 of 41_hmac_sha1.md, laws (b) and (c): trailing zero bytes of a key of at most one block do not matter, and a
longer key acts as its SHA-1 digest. -/
def Obligations.HmacKeyEquivalences : Prop :=
  (∀ (k m : List Byte) (n : Nat), k.length + n ≤ 64 → hmacSha1 (k ++ List.replicate n 0) m = hmacSha1 k m) ∧
  (∀ k m : List Byte, 64 < k.length → hmacSha1 k m = hmacSha1 (sha1 k).toList m)

/-! ### Truncation, reduction, derivation -/

/-- R111: in terms of the `DIGESTn` registers, the offset is the low nibble of `DIGEST4`, and the dynamic binary code is
bits `[159 - 8o : 128 - 8o]` of the 160-bit digest with its top bit cleared; bit 31 of it is always 0. -/
def Obligations.DynTruncSelectsTheWindow : Prop :=
  ∀ (d : Digest) (o : Nat), o = ((digestWord d 4).extractLsb' 0 4).toNat →
    o ≤ 15 ∧
    dynTrunc d = ((((((digestWord d 0 ++ digestWord d 1) ++ digestWord d 2) ++ digestWord d 3) ++ digestWord d 4).extractLsb'
      (128 - 8 * o) 32) &&& 0x7FFFFFFF#32) ∧
    (dynTrunc d)[31] = false

/-- R112: the reduction is exactly `P mod 10^digits` for every 31-bit `P` and every digit count, with the power never
wrapped; it is at most `P` and below `10^digits`, 0 for no digits, and `P` itself from ten digits on. -/
def Obligations.ReduceIsExactModulo : Prop :=
  ∀ p digits : Word, p.toNat < 2 ^ 31 →
    (reduce p digits).toNat = p.toNat % 10 ^ digits.toNat ∧
    (reduce p digits).toNat ≤ p.toNat ∧
    (reduce p digits).toNat < 10 ^ digits.toNat ∧
    (digits = 0 → reduce p digits = 0) ∧
    (10 ≤ digits.toNat → reduce p digits = p)

/-- R120: the derivation divides the signed time by the unsigned period toward minus infinity and adds the offset modulo
`2^64`: the quotient and remainder, their ranges, the relation to truncating division, and the wrap. -/
def Obligations.DeriveIsFloorDivisionPlusOffset : Prop :=
  ∀ (t ofs : DWord) (period : Word), period ≠ 0 →
    ∃ q r : Int,
      t.toInt = q * period.toNat + r ∧ 0 ≤ r ∧ r < period.toNat ∧
      -2 ^ 63 ≤ q ∧ q < 2 ^ 63 ∧
      (0 ≤ t.toInt → q = Int.tdiv t.toInt period.toNat) ∧
      (t.toInt < 0 → q = Int.tdiv t.toInt period.toNat - (if r = 0 then 0 else 1)) ∧
      derive t period ofs = BitVec.ofInt 64 (q + ofs.toInt) ∧
      derive t period ofs = BitVec.ofInt 64 q + ofs ∧
      derive t period 0 = BitVec.ofInt 64 q

/-- Section 3 of 43_time_counter.md, laws (a) and (c): `TOTPO` leaves what `HOTP` leaves on the counter derived from the
latched time, and `CTRGEN` yields that counter. -/
def Obligations.WindowRelation : Prop :=
  ∀ s : State, s.valid = true → s.engPeriod ≠ 0 →
    ∃ t u g, exec .totpo s = .next t ∧ exec .ctrgen s = .next g ∧ exec .hotp { s with ctr := g.ctro } = .next u ∧
      g.ctro = derive s.tlatch s.engPeriod s.ofs ∧
      t.digest = u.digest ∧ t.dbc = u.dbc ∧ t.code = u.code ∧ t.ctro = g.ctro ∧ u.ctro = g.ctro ∧ t.tsnap = s.tlatch ∧
      t.code = codeOf s.secret g.ctro s.engDigits

/-- Section 3 of 70_reset_and_hazards.md (time is sampled per command, at Accept): the time a `TOTP` uses is the input's
value when its `CMD` write was accepted, whatever the input shows when the command completes. The script that says who
moves, and the time it fixes, are the model's form (notes/assumptions/3.md and 2.md). -/
def Obligations.TimeIsSampledAtAccept : Prop :=
  ∀ (s : State) (v v' : DWord), s.busy = false → s.valid = true → s.engPeriod ≠ 0 →
    ∃ t, Host.Core.run Sys2Proof.core 4
        (s.withScript [.time v, .write Reg.cmd.offset (encode .totp), .time v', .core]) = .next t ∧
      t.tsnap = v ∧ t.ctro = derive v s.engPeriod 0 ∧ t.code = codeOf s.secret (derive v s.engPeriod 0) s.engDigits ∧
      t.err = 0 ∧ t.busy = false
end

