-- ==== Sys2Proof/Laws/Bytes.lean ====
section
/-! SUPPORT. Lengths of the byte sequences (spec/00_scope.md rule R6), and the halves of a 64-bit register
(spec/20_memory.md rule R48). -/

namespace Sys2Proof.Machine

@[simp] theorem bytes32_length (w : Word) : (bytes32 w).length = 4 := rfl

@[simp] theorem bytes64_length (v : DWord) : (bytes64 v).length = 8 := rfl

@[simp] theorem xorBytes_length (x : Byte) (bs : List Byte) : (xorBytes x bs).length = bs.length := by
  simp [xorBytes]

@[simp] theorem bits5_length (v : BitVec 5) : (bits5 v).length = 5 := rfl

@[simp] theorem bytesOfBits_length (k : Nat) (bits : List Bool) : (bytesOfBits k bits).length = k := by
  induction k generalizing bits with
  | zero => rfl
  | succ k ih => simp [bytesOfBits, ih]

@[simp] theorem packVals_length (vs : List (BitVec 5)) : (packVals vs).length = 5 * vs.length / 8 := by
  simp [packVals]

theorem base32Vals_length {cs : List Byte} {vs : List (BitVec 5)} (h : base32Vals cs = some vs) :
    vs.length = cs.length := by
  induction cs generalizing vs with
  | nil => simp_all [base32Vals]
  | cons c cs ih =>
    unfold base32Vals at h
    split at h
    · obtain rfl := Option.some.inj h
      simp [ih ‹_›]
    · cases h

/-- A decoded text has at most five bytes for eight characters (R74). -/
theorem dec32_length_le {s r : List Byte} (h : dec32 s = some r) : r.length ≤ 5 * s.length / 8 := by
  unfold dec32 at h
  split at h
  · cases h
  · split at h
    · cases h
    · obtain ⟨vs, hv, rfl⟩ := Option.map_eq_some_iff.1 h
      have := base32Vals_length hv
      simp only [packVals_length, List.length_take] at *
      omega

/-- The two halves make the register (R48). -/
theorem halves_append (x : DWord) : hiHalf x ++ loHalf x = x := by
  apply BitVec.eq_of_getLsbD_eq
  intro i hi
  simp only [loHalf, hiHalf, BitVec.getLsbD_append, BitVec.getLsbD_extractLsb']
  split
  · simp [*]
  · rw [show 32 + (i - 32) = i by omega, decide_eq_true (by omega : i - 32 < 32)]
    simp

end Sys2Proof.Machine
end

