-- ==== Sys2Proof/Laws/Code.lean ====
section
/-! SUPPORT. The outcome codes as numerals (spec/60_exceptions.md rule R130) and the pipeline on the cleared digest, which
ties the result registers together after `Destroy()` and Reset (spec/10_state.md rule R19). Literals are written as simp
leaves them. -/

namespace Sys2Proof.Machine

@[simp] theorem code_ok : ErrCode.ok.code = 0#4 := rfl
@[simp] theorem code_decode : ErrCode.decode.code = 1#4 := rfl
@[simp] theorem code_txtovf : ErrCode.txtovf.code = 2#4 := rfl
@[simp] theorem code_noeng : ErrCode.noeng.code = 3#4 := rfl
@[simp] theorem code_period0 : ErrCode.period0.code = 4#4 := rfl
@[simp] theorem code_illcmd : ErrCode.illcmd.code = 5#4 := rfl

@[simp] theorem dynTrunc_zeros : dynTrunc (Vector.replicate 20 0#8) = 0#32 := by decide

@[simp] theorem reduce_zero (digits : Word) : reduce 0#32 digits = 0#32 := by
  unfold reduce
  split <;> simp

/-- Below ten digits the reduction is the remainder (R112). -/
theorem reduce_toNat_of_lt {p digits : Word} (h : digits.toNat < 10) :
    (reduce p digits).toNat = p.toNat % 10 ^ digits.toNat := by
  have : p.toNat % 10 ^ digits.toNat < 2 ^ 32 := Nat.lt_of_le_of_lt (Nat.mod_le ..) p.isLt
  simp only [reduce, Nat.not_le.2 h, if_false, BitVec.toNat_ofNat]
  exact Nat.mod_eq_of_lt this

/-- From ten digits on the value passes through (R112). -/
theorem reduce_of_le {p digits : Word} (h : 10 ≤ digits.toNat) : reduce p digits = p := by
  simp [reduce, h]

end Sys2Proof.Machine
end

