-- ==== Sys2Proof/Laws/Decode.lean ====
section
/-! SUPPORT. The fields of a command word, and the table as data (spec/30_encoding.md rules R60, R63). -/

namespace Sys2Proof

@[simp] theorem opField_commandWord (op imm : Byte) : opField (commandWord op imm) = op := by
  apply BitVec.eq_of_getLsbD_eq
  intro i hi
  have h : i < 32 := by omega
  simp [opField, commandWord, hi, h]

@[simp] theorem immField_commandWord (op imm : Byte) : immField (commandWord op imm) = imm := by
  apply BitVec.eq_of_getLsbD_eq
  intro i hi
  have h : 8 + i < 32 := by omega
  simp [immField, commandWord, hi, h]

@[simp] theorem rsvField_commandWord (op imm : Byte) : rsvField (commandWord op imm) = 0 := by
  apply BitVec.eq_of_getLsbD_eq
  intro i hi
  have h : 8 ≤ 16 + i - 8 := by omega
  have h' : op.getLsbD (16 + i) = false := BitVec.getLsbD_of_ge _ _ (by omega)
  simp [rsvField, commandWord, h, h']

/-- A word whose reserved bits are zero is the command word of its other two fields. -/
theorem commandWord_of_rsvField {w : Word} (h : rsvField w = 0) : commandWord (opField w) (immField w) = w := by
  apply BitVec.eq_of_getLsbD_eq
  intro i hi
  by_cases h1 : i < 8
  · simp [commandWord, opField, immField, hi, h1]
  · by_cases h2 : i < 16
    · have e : 8 + (i - 8) = i := by omega
      have h3 : i - 8 < 8 := by omega
      simp [commandWord, opField, immField, hi, h1, h3, e]
    · have hb : (rsvField w).getLsbD (i - 16) = false := by simp [h]
      have e : 16 + (i - 16) = i := by omega
      have h3 : ¬ i - 8 < 8 := by omega
      have h4 : i - 16 < 16 := by omega
      simp [rsvField, h4, e] at hb
      simp [commandWord, opField, immField, h1, h3, hb]

/-- No two rows of the table select one word: some bit that both look at differs (R63, "the rows are disjoint"). -/
theorem opcodeTable_disjoint :
    opcodeTable.Pairwise (fun r r' => r.mask &&& r'.mask &&& (r.pattern ^^^ r'.pattern) ≠ 0) := by
  decide

end Sys2Proof
end

