-- ==== Sys2Proof/Laws/State.lean ====
section
/-! SUPPORT. One lemma per field per update of the state, true by rfl, so that no later proof unfolds a record update.
The updates are the shared operations of Machine/Ops.lean, Secret.lean, Code.lean, HostPort.lean and Turns.lean. -/

namespace Sys2Proof.Machine

section
variable (o : ErrCode) (s : State)

@[simp] theorem finish_params : (finish o s).params = s.params := rfl
@[simp] theorem finish_busy : (finish o s).busy = false := rfl
@[simp] theorem finish_pend : (finish o s).pend = s.pend := rfl
@[simp] theorem finish_tlatch : (finish o s).tlatch = s.tlatch := rfl
@[simp] theorem finish_cfgDigits : (finish o s).cfgDigits = s.cfgDigits := rfl
@[simp] theorem finish_cfgPeriod : (finish o s).cfgPeriod = s.cfgPeriod := rfl
@[simp] theorem finish_ctr : (finish o s).ctr = s.ctr := rfl
@[simp] theorem finish_ofs : (finish o s).ofs = s.ofs := rfl
@[simp] theorem finish_valid : (finish o s).valid = s.valid := rfl
@[simp] theorem finish_secret : (finish o s).secret = s.secret := rfl
@[simp] theorem finish_engDigits : (finish o s).engDigits = s.engDigits := rfl
@[simp] theorem finish_engPeriod : (finish o s).engPeriod = s.engPeriod := rfl
@[simp] theorem finish_txt : (finish o s).txt = s.txt := rfl
@[simp] theorem finish_tovf : (finish o s).tovf = s.tovf := rfl
@[simp] theorem finish_code : (finish o s).code = s.code := rfl
@[simp] theorem finish_dbc : (finish o s).dbc = s.dbc := rfl
@[simp] theorem finish_digest : (finish o s).digest = s.digest := rfl
@[simp] theorem finish_ctro : (finish o s).ctro = s.ctro := rfl
@[simp] theorem finish_tsnap : (finish o s).tsnap = s.tsnap := rfl
@[simp] theorem finish_err : (finish o s).err = o.code := rfl
@[simp] theorem finish_ovr : (finish o s).ovr = s.ovr := rfl
@[simp] theorem finish_env : (finish o s).env = s.env := rfl
@[simp] theorem finish_tlen : (finish o s).tlen = s.tlen := rfl
@[simp] theorem finish_klen : (finish o s).klen = s.klen := rfl

end

section
variable (w : Word) (s : State)

@[simp] theorem accept_params : (accept w s).params = s.params := rfl
@[simp] theorem accept_busy : (accept w s).busy = true := rfl
@[simp] theorem accept_pend : (accept w s).pend = w := rfl
@[simp] theorem accept_tlatch : (accept w s).tlatch = now s := rfl
@[simp] theorem accept_cfgDigits : (accept w s).cfgDigits = s.cfgDigits := rfl
@[simp] theorem accept_cfgPeriod : (accept w s).cfgPeriod = s.cfgPeriod := rfl
@[simp] theorem accept_ctr : (accept w s).ctr = s.ctr := rfl
@[simp] theorem accept_ofs : (accept w s).ofs = s.ofs := rfl
@[simp] theorem accept_valid : (accept w s).valid = s.valid := rfl
@[simp] theorem accept_secret : (accept w s).secret = s.secret := rfl
@[simp] theorem accept_engDigits : (accept w s).engDigits = s.engDigits := rfl
@[simp] theorem accept_engPeriod : (accept w s).engPeriod = s.engPeriod := rfl
@[simp] theorem accept_txt : (accept w s).txt = s.txt := rfl
@[simp] theorem accept_tovf : (accept w s).tovf = s.tovf := rfl
@[simp] theorem accept_code : (accept w s).code = s.code := rfl
@[simp] theorem accept_dbc : (accept w s).dbc = s.dbc := rfl
@[simp] theorem accept_digest : (accept w s).digest = s.digest := rfl
@[simp] theorem accept_ctro : (accept w s).ctro = s.ctro := rfl
@[simp] theorem accept_tsnap : (accept w s).tsnap = s.tsnap := rfl
@[simp] theorem accept_err : (accept w s).err = s.err := rfl
@[simp] theorem accept_ovr : (accept w s).ovr = s.ovr := rfl
@[simp] theorem accept_env : (accept w s).env = { s.env with draws := s.env.draws + 1 } := rfl
@[simp] theorem accept_tlen : (accept w s).tlen = s.tlen := rfl
@[simp] theorem accept_klen : (accept w s).klen = s.klen := rfl

end

section
variable (s : State)

@[simp] theorem dropWrite_params : (dropWrite s).params = s.params := rfl
@[simp] theorem dropWrite_busy : (dropWrite s).busy = s.busy := rfl
@[simp] theorem dropWrite_pend : (dropWrite s).pend = s.pend := rfl
@[simp] theorem dropWrite_tlatch : (dropWrite s).tlatch = s.tlatch := rfl
@[simp] theorem dropWrite_cfgDigits : (dropWrite s).cfgDigits = s.cfgDigits := rfl
@[simp] theorem dropWrite_cfgPeriod : (dropWrite s).cfgPeriod = s.cfgPeriod := rfl
@[simp] theorem dropWrite_ctr : (dropWrite s).ctr = s.ctr := rfl
@[simp] theorem dropWrite_ofs : (dropWrite s).ofs = s.ofs := rfl
@[simp] theorem dropWrite_valid : (dropWrite s).valid = s.valid := rfl
@[simp] theorem dropWrite_secret : (dropWrite s).secret = s.secret := rfl
@[simp] theorem dropWrite_engDigits : (dropWrite s).engDigits = s.engDigits := rfl
@[simp] theorem dropWrite_engPeriod : (dropWrite s).engPeriod = s.engPeriod := rfl
@[simp] theorem dropWrite_txt : (dropWrite s).txt = s.txt := rfl
@[simp] theorem dropWrite_tovf : (dropWrite s).tovf = s.tovf := rfl
@[simp] theorem dropWrite_code : (dropWrite s).code = s.code := rfl
@[simp] theorem dropWrite_dbc : (dropWrite s).dbc = s.dbc := rfl
@[simp] theorem dropWrite_digest : (dropWrite s).digest = s.digest := rfl
@[simp] theorem dropWrite_ctro : (dropWrite s).ctro = s.ctro := rfl
@[simp] theorem dropWrite_tsnap : (dropWrite s).tsnap = s.tsnap := rfl
@[simp] theorem dropWrite_err : (dropWrite s).err = s.err := rfl
@[simp] theorem dropWrite_ovr : (dropWrite s).ovr = true := rfl
@[simp] theorem dropWrite_env : (dropWrite s).env = s.env := rfl
@[simp] theorem dropWrite_tlen : (dropWrite s).tlen = s.tlen := rfl
@[simp] theorem dropWrite_klen : (dropWrite s).klen = s.klen := rfl

end

section
variable (s : State)

@[simp] theorem clearText_params : (clearText s).params = s.params := rfl
@[simp] theorem clearText_busy : (clearText s).busy = s.busy := rfl
@[simp] theorem clearText_pend : (clearText s).pend = s.pend := rfl
@[simp] theorem clearText_tlatch : (clearText s).tlatch = s.tlatch := rfl
@[simp] theorem clearText_cfgDigits : (clearText s).cfgDigits = s.cfgDigits := rfl
@[simp] theorem clearText_cfgPeriod : (clearText s).cfgPeriod = s.cfgPeriod := rfl
@[simp] theorem clearText_ctr : (clearText s).ctr = s.ctr := rfl
@[simp] theorem clearText_ofs : (clearText s).ofs = s.ofs := rfl
@[simp] theorem clearText_valid : (clearText s).valid = s.valid := rfl
@[simp] theorem clearText_secret : (clearText s).secret = s.secret := rfl
@[simp] theorem clearText_engDigits : (clearText s).engDigits = s.engDigits := rfl
@[simp] theorem clearText_engPeriod : (clearText s).engPeriod = s.engPeriod := rfl
@[simp] theorem clearText_txt : (clearText s).txt = [] := rfl
@[simp] theorem clearText_tovf : (clearText s).tovf = false := rfl
@[simp] theorem clearText_code : (clearText s).code = s.code := rfl
@[simp] theorem clearText_dbc : (clearText s).dbc = s.dbc := rfl
@[simp] theorem clearText_digest : (clearText s).digest = s.digest := rfl
@[simp] theorem clearText_ctro : (clearText s).ctro = s.ctro := rfl
@[simp] theorem clearText_tsnap : (clearText s).tsnap = s.tsnap := rfl
@[simp] theorem clearText_err : (clearText s).err = s.err := rfl
@[simp] theorem clearText_ovr : (clearText s).ovr = s.ovr := rfl
@[simp] theorem clearText_env : (clearText s).env = s.env := rfl
@[simp] theorem clearText_klen : (clearText s).klen = s.klen := rfl

end

section
variable (s : State)

@[simp] theorem destroy_params : (destroy s).params = s.params := rfl
@[simp] theorem destroy_busy : (destroy s).busy = s.busy := rfl
@[simp] theorem destroy_pend : (destroy s).pend = s.pend := rfl
@[simp] theorem destroy_tlatch : (destroy s).tlatch = s.tlatch := rfl
@[simp] theorem destroy_cfgDigits : (destroy s).cfgDigits = s.cfgDigits := rfl
@[simp] theorem destroy_cfgPeriod : (destroy s).cfgPeriod = s.cfgPeriod := rfl
@[simp] theorem destroy_ctr : (destroy s).ctr = s.ctr := rfl
@[simp] theorem destroy_ofs : (destroy s).ofs = s.ofs := rfl
@[simp] theorem destroy_valid : (destroy s).valid = false := rfl
@[simp] theorem destroy_secret : (destroy s).secret = [] := rfl
@[simp] theorem destroy_engDigits : (destroy s).engDigits = 0 := rfl
@[simp] theorem destroy_engPeriod : (destroy s).engPeriod = 0 := rfl
@[simp] theorem destroy_txt : (destroy s).txt = s.txt := rfl
@[simp] theorem destroy_tovf : (destroy s).tovf = s.tovf := rfl
@[simp] theorem destroy_code : (destroy s).code = 0 := rfl
@[simp] theorem destroy_dbc : (destroy s).dbc = 0 := rfl
@[simp] theorem destroy_digest : (destroy s).digest = Vector.replicate 20 0 := rfl
@[simp] theorem destroy_ctro : (destroy s).ctro = 0 := rfl
@[simp] theorem destroy_tsnap : (destroy s).tsnap = 0 := rfl
@[simp] theorem destroy_err : (destroy s).err = s.err := rfl
@[simp] theorem destroy_ovr : (destroy s).ovr = s.ovr := rfl
@[simp] theorem destroy_env : (destroy s).env = s.env := rfl
@[simp] theorem destroy_tlen : (destroy s).tlen = s.tlen := rfl

end

section
variable (key : List Byte) (s : State)

@[simp] theorem install_params : (install key s).params = s.params := rfl
@[simp] theorem install_busy : (install key s).busy = s.busy := rfl
@[simp] theorem install_pend : (install key s).pend = s.pend := rfl
@[simp] theorem install_tlatch : (install key s).tlatch = s.tlatch := rfl
@[simp] theorem install_cfgDigits : (install key s).cfgDigits = s.cfgDigits := rfl
@[simp] theorem install_cfgPeriod : (install key s).cfgPeriod = s.cfgPeriod := rfl
@[simp] theorem install_ctr : (install key s).ctr = s.ctr := rfl
@[simp] theorem install_ofs : (install key s).ofs = s.ofs := rfl
@[simp] theorem install_valid : (install key s).valid = true := rfl
@[simp] theorem install_secret : (install key s).secret = key := rfl
@[simp] theorem install_engDigits : (install key s).engDigits = s.cfgDigits := rfl
@[simp] theorem install_engPeriod : (install key s).engPeriod = s.cfgPeriod := rfl
@[simp] theorem install_txt : (install key s).txt = s.txt := rfl
@[simp] theorem install_tovf : (install key s).tovf = s.tovf := rfl
@[simp] theorem install_code : (install key s).code = s.code := rfl
@[simp] theorem install_dbc : (install key s).dbc = s.dbc := rfl
@[simp] theorem install_digest : (install key s).digest = s.digest := rfl
@[simp] theorem install_ctro : (install key s).ctro = s.ctro := rfl
@[simp] theorem install_tsnap : (install key s).tsnap = s.tsnap := rfl
@[simp] theorem install_err : (install key s).err = s.err := rfl
@[simp] theorem install_ovr : (install key s).ovr = s.ovr := rfl
@[simp] theorem install_env : (install key s).env = s.env := rfl
@[simp] theorem install_tlen : (install key s).tlen = s.tlen := rfl

end

section
variable (c : DWord) (s : State)

@[simp] theorem putCode_params : (putCode c s).params = s.params := rfl
@[simp] theorem putCode_busy : (putCode c s).busy = s.busy := rfl
@[simp] theorem putCode_pend : (putCode c s).pend = s.pend := rfl
@[simp] theorem putCode_tlatch : (putCode c s).tlatch = s.tlatch := rfl
@[simp] theorem putCode_cfgDigits : (putCode c s).cfgDigits = s.cfgDigits := rfl
@[simp] theorem putCode_cfgPeriod : (putCode c s).cfgPeriod = s.cfgPeriod := rfl
@[simp] theorem putCode_ctr : (putCode c s).ctr = s.ctr := rfl
@[simp] theorem putCode_ofs : (putCode c s).ofs = s.ofs := rfl
@[simp] theorem putCode_valid : (putCode c s).valid = s.valid := rfl
@[simp] theorem putCode_secret : (putCode c s).secret = s.secret := rfl
@[simp] theorem putCode_engDigits : (putCode c s).engDigits = s.engDigits := rfl
@[simp] theorem putCode_engPeriod : (putCode c s).engPeriod = s.engPeriod := rfl
@[simp] theorem putCode_txt : (putCode c s).txt = s.txt := rfl
@[simp] theorem putCode_tovf : (putCode c s).tovf = s.tovf := rfl
@[simp] theorem putCode_code : (putCode c s).code = codeOf s.secret c s.engDigits := rfl
@[simp] theorem putCode_dbc : (putCode c s).dbc = dynTrunc (hmacSha1 s.secret (bytes64 c)) := rfl
@[simp] theorem putCode_digest : (putCode c s).digest = hmacSha1 s.secret (bytes64 c) := rfl
@[simp] theorem putCode_ctro : (putCode c s).ctro = c := rfl
@[simp] theorem putCode_tsnap : (putCode c s).tsnap = s.tsnap := rfl
@[simp] theorem putCode_err : (putCode c s).err = s.err := rfl
@[simp] theorem putCode_ovr : (putCode c s).ovr = s.ovr := rfl
@[simp] theorem putCode_env : (putCode c s).env = s.env := rfl
@[simp] theorem putCode_tlen : (putCode c s).tlen = s.tlen := rfl
@[simp] theorem putCode_klen : (putCode c s).klen = s.klen := rfl

end

section
variable (s : State)

@[simp] theorem putTime_params : (putTime s).params = s.params := rfl
@[simp] theorem putTime_busy : (putTime s).busy = s.busy := rfl
@[simp] theorem putTime_pend : (putTime s).pend = s.pend := rfl
@[simp] theorem putTime_tlatch : (putTime s).tlatch = s.tlatch := rfl
@[simp] theorem putTime_cfgDigits : (putTime s).cfgDigits = s.cfgDigits := rfl
@[simp] theorem putTime_cfgPeriod : (putTime s).cfgPeriod = s.cfgPeriod := rfl
@[simp] theorem putTime_ctr : (putTime s).ctr = s.ctr := rfl
@[simp] theorem putTime_ofs : (putTime s).ofs = s.ofs := rfl
@[simp] theorem putTime_valid : (putTime s).valid = s.valid := rfl
@[simp] theorem putTime_secret : (putTime s).secret = s.secret := rfl
@[simp] theorem putTime_engDigits : (putTime s).engDigits = s.engDigits := rfl
@[simp] theorem putTime_engPeriod : (putTime s).engPeriod = s.engPeriod := rfl
@[simp] theorem putTime_txt : (putTime s).txt = s.txt := rfl
@[simp] theorem putTime_tovf : (putTime s).tovf = s.tovf := rfl
@[simp] theorem putTime_code : (putTime s).code = s.code := rfl
@[simp] theorem putTime_dbc : (putTime s).dbc = s.dbc := rfl
@[simp] theorem putTime_digest : (putTime s).digest = s.digest := rfl
@[simp] theorem putTime_ctro : (putTime s).ctro = s.ctro := rfl
@[simp] theorem putTime_tsnap : (putTime s).tsnap = s.tlatch := rfl
@[simp] theorem putTime_err : (putTime s).err = s.err := rfl
@[simp] theorem putTime_ovr : (putTime s).ovr = s.ovr := rfl
@[simp] theorem putTime_env : (putTime s).env = s.env := rfl
@[simp] theorem putTime_tlen : (putTime s).tlen = s.tlen := rfl
@[simp] theorem putTime_klen : (putTime s).klen = s.klen := rfl

end

section
variable (off : Nat) (s : State)

@[simp] theorem recordRead_params : (recordRead off s).params = s.params := rfl
@[simp] theorem recordRead_busy : (recordRead off s).busy = s.busy := rfl
@[simp] theorem recordRead_pend : (recordRead off s).pend = s.pend := rfl
@[simp] theorem recordRead_tlatch : (recordRead off s).tlatch = s.tlatch := rfl
@[simp] theorem recordRead_cfgDigits : (recordRead off s).cfgDigits = s.cfgDigits := rfl
@[simp] theorem recordRead_cfgPeriod : (recordRead off s).cfgPeriod = s.cfgPeriod := rfl
@[simp] theorem recordRead_ctr : (recordRead off s).ctr = s.ctr := rfl
@[simp] theorem recordRead_ofs : (recordRead off s).ofs = s.ofs := rfl
@[simp] theorem recordRead_valid : (recordRead off s).valid = s.valid := rfl
@[simp] theorem recordRead_secret : (recordRead off s).secret = s.secret := rfl
@[simp] theorem recordRead_engDigits : (recordRead off s).engDigits = s.engDigits := rfl
@[simp] theorem recordRead_engPeriod : (recordRead off s).engPeriod = s.engPeriod := rfl
@[simp] theorem recordRead_txt : (recordRead off s).txt = s.txt := rfl
@[simp] theorem recordRead_tovf : (recordRead off s).tovf = s.tovf := rfl
@[simp] theorem recordRead_code : (recordRead off s).code = s.code := rfl
@[simp] theorem recordRead_dbc : (recordRead off s).dbc = s.dbc := rfl
@[simp] theorem recordRead_digest : (recordRead off s).digest = s.digest := rfl
@[simp] theorem recordRead_ctro : (recordRead off s).ctro = s.ctro := rfl
@[simp] theorem recordRead_tsnap : (recordRead off s).tsnap = s.tsnap := rfl
@[simp] theorem recordRead_err : (recordRead off s).err = s.err := rfl
@[simp] theorem recordRead_ovr : (recordRead off s).ovr = s.ovr := rfl
@[simp] theorem recordRead_env : (recordRead off s).env = { s.env with seen := ⟨off, hostRead s off⟩ :: s.env.seen } := rfl
@[simp] theorem recordRead_tlen : (recordRead off s).tlen = s.tlen := rfl
@[simp] theorem recordRead_klen : (recordRead off s).klen = s.klen := rfl

end

section
variable (v : DWord) (s : State)

@[simp] theorem fixTime_params : (fixTime v s).params = s.params := rfl
@[simp] theorem fixTime_busy : (fixTime v s).busy = s.busy := rfl
@[simp] theorem fixTime_pend : (fixTime v s).pend = s.pend := rfl
@[simp] theorem fixTime_tlatch : (fixTime v s).tlatch = s.tlatch := rfl
@[simp] theorem fixTime_cfgDigits : (fixTime v s).cfgDigits = s.cfgDigits := rfl
@[simp] theorem fixTime_cfgPeriod : (fixTime v s).cfgPeriod = s.cfgPeriod := rfl
@[simp] theorem fixTime_ctr : (fixTime v s).ctr = s.ctr := rfl
@[simp] theorem fixTime_ofs : (fixTime v s).ofs = s.ofs := rfl
@[simp] theorem fixTime_valid : (fixTime v s).valid = s.valid := rfl
@[simp] theorem fixTime_secret : (fixTime v s).secret = s.secret := rfl
@[simp] theorem fixTime_engDigits : (fixTime v s).engDigits = s.engDigits := rfl
@[simp] theorem fixTime_engPeriod : (fixTime v s).engPeriod = s.engPeriod := rfl
@[simp] theorem fixTime_txt : (fixTime v s).txt = s.txt := rfl
@[simp] theorem fixTime_tovf : (fixTime v s).tovf = s.tovf := rfl
@[simp] theorem fixTime_code : (fixTime v s).code = s.code := rfl
@[simp] theorem fixTime_dbc : (fixTime v s).dbc = s.dbc := rfl
@[simp] theorem fixTime_digest : (fixTime v s).digest = s.digest := rfl
@[simp] theorem fixTime_ctro : (fixTime v s).ctro = s.ctro := rfl
@[simp] theorem fixTime_tsnap : (fixTime v s).tsnap = s.tsnap := rfl
@[simp] theorem fixTime_err : (fixTime v s).err = s.err := rfl
@[simp] theorem fixTime_ovr : (fixTime v s).ovr = s.ovr := rfl
@[simp] theorem fixTime_env : (fixTime v s).env = { s.env with timeIn := some v } := rfl
@[simp] theorem fixTime_tlen : (fixTime v s).tlen = s.tlen := rfl
@[simp] theorem fixTime_klen : (fixTime v s).klen = s.klen := rfl

end

section
variable (s : State) (es : List Event)

@[simp] theorem withScript_params : (s.withScript es).params = s.params := rfl
@[simp] theorem withScript_busy : (s.withScript es).busy = s.busy := rfl
@[simp] theorem withScript_pend : (s.withScript es).pend = s.pend := rfl
@[simp] theorem withScript_tlatch : (s.withScript es).tlatch = s.tlatch := rfl
@[simp] theorem withScript_cfgDigits : (s.withScript es).cfgDigits = s.cfgDigits := rfl
@[simp] theorem withScript_cfgPeriod : (s.withScript es).cfgPeriod = s.cfgPeriod := rfl
@[simp] theorem withScript_ctr : (s.withScript es).ctr = s.ctr := rfl
@[simp] theorem withScript_ofs : (s.withScript es).ofs = s.ofs := rfl
@[simp] theorem withScript_valid : (s.withScript es).valid = s.valid := rfl
@[simp] theorem withScript_secret : (s.withScript es).secret = s.secret := rfl
@[simp] theorem withScript_engDigits : (s.withScript es).engDigits = s.engDigits := rfl
@[simp] theorem withScript_engPeriod : (s.withScript es).engPeriod = s.engPeriod := rfl
@[simp] theorem withScript_txt : (s.withScript es).txt = s.txt := rfl
@[simp] theorem withScript_tovf : (s.withScript es).tovf = s.tovf := rfl
@[simp] theorem withScript_code : (s.withScript es).code = s.code := rfl
@[simp] theorem withScript_dbc : (s.withScript es).dbc = s.dbc := rfl
@[simp] theorem withScript_digest : (s.withScript es).digest = s.digest := rfl
@[simp] theorem withScript_ctro : (s.withScript es).ctro = s.ctro := rfl
@[simp] theorem withScript_tsnap : (s.withScript es).tsnap = s.tsnap := rfl
@[simp] theorem withScript_err : (s.withScript es).err = s.err := rfl
@[simp] theorem withScript_ovr : (s.withScript es).ovr = s.ovr := rfl
@[simp] theorem withScript_env : (s.withScript es).env = { s.env with script := es } := rfl
@[simp] theorem withScript_tlen : (s.withScript es).tlen = s.tlen := rfl
@[simp] theorem withScript_klen : (s.withScript es).klen = s.klen := rfl

end

section
variable (s : State)

@[simp] theorem resetBlock_params : (resetBlock s).params = s.params := rfl
@[simp] theorem resetBlock_busy : (resetBlock s).busy = false := rfl
@[simp] theorem resetBlock_pend : (resetBlock s).pend = 0 := rfl
@[simp] theorem resetBlock_tlatch : (resetBlock s).tlatch = 0 := rfl
@[simp] theorem resetBlock_cfgDigits : (resetBlock s).cfgDigits = 6 := rfl
@[simp] theorem resetBlock_cfgPeriod : (resetBlock s).cfgPeriod = 30 := rfl
@[simp] theorem resetBlock_ctr : (resetBlock s).ctr = 0 := rfl
@[simp] theorem resetBlock_ofs : (resetBlock s).ofs = 0 := rfl
@[simp] theorem resetBlock_valid : (resetBlock s).valid = false := rfl
@[simp] theorem resetBlock_secret : (resetBlock s).secret = [] := rfl
@[simp] theorem resetBlock_engDigits : (resetBlock s).engDigits = 0 := rfl
@[simp] theorem resetBlock_engPeriod : (resetBlock s).engPeriod = 0 := rfl
@[simp] theorem resetBlock_txt : (resetBlock s).txt = [] := rfl
@[simp] theorem resetBlock_tovf : (resetBlock s).tovf = false := rfl
@[simp] theorem resetBlock_code : (resetBlock s).code = 0 := rfl
@[simp] theorem resetBlock_dbc : (resetBlock s).dbc = 0 := rfl
@[simp] theorem resetBlock_digest : (resetBlock s).digest = Vector.replicate 20 0 := rfl
@[simp] theorem resetBlock_ctro : (resetBlock s).ctro = 0 := rfl
@[simp] theorem resetBlock_tsnap : (resetBlock s).tsnap = 0 := rfl
@[simp] theorem resetBlock_err : (resetBlock s).err = 0 := rfl
@[simp] theorem resetBlock_ovr : (resetBlock s).ovr = false := rfl
@[simp] theorem resetBlock_env : (resetBlock s).env = s.env := rfl

end

/-- Putting a script in place of another keeps nothing of the first. -/
@[simp] theorem withScript_withScript (s : State) (es es' : List Event) :
    (s.withScript es).withScript es' = s.withScript es' := rfl

/-- A state with its own script put back is the state. -/
@[simp] theorem withScript_self (s : State) : s.withScript s.env.script = s := rfl

end Sys2Proof.Machine
end

