-- ==== Sys2Proof/Laws/Ops.lean ====
section
/-! SUPPORT. What each shared operation can do, said once: the ends of a command, the guards, the port and the agents'
turns. -/

namespace Sys2Proof.Machine

@[simp] theorem succeed_eq_next {s t : State} : succeed s = .next t ↔ t = finish .ok s := by
  simp [succeed, eq_comm]

@[simp] theorem fail_eq_next {e : ErrCode} {s t : State} : fail e s = .next t ↔ t = finish e s := by
  simp [fail, eq_comm]

theorem whenIdle_busy {s u : State} (h : s.busy = true) : whenIdle s u = dropWrite s := by
  simp [whenIdle, h]

theorem whenIdle_idle {s u : State} (h : s.busy = false) : whenIdle s u = u := by
  simp [whenIdle, h]

/-- A time command ends with `NOENG`, with `PERIOD0`, or with its effect (R122 to R124). -/
theorem timeCommand_cases {s u t : State} (h : timeCommand s u = .next t) :
    (s.valid = false ∧ t = finish .noeng s) ∨
    (s.valid = true ∧ s.engPeriod = 0 ∧ t = finish .period0 s) ∨
    (s.valid = true ∧ s.engPeriod ≠ 0 ∧ t = finish .ok u) := by
  unfold timeCommand at h
  split at h
  · exact .inl ⟨‹_›, fail_eq_next.1 h⟩
  · have hv : s.valid = true := by simpa using ‹¬ s.valid = false›
    split at h
    · exact .inr (.inl ⟨hv, ‹_›, fail_eq_next.1 h⟩)
    · exact .inr (.inr ⟨hv, ‹_›, succeed_eq_next.1 h⟩)

/-- The text decodes, or `CONSTRUCT` fails with `TXTOVF` or `DECODE` (R78). -/
theorem decodeText_cases (s : State) :
    (s.tovf = true ∧ decodeText s = .error .txtovf) ∨
    (s.tovf = false ∧ dec32 s.txt = none ∧ decodeText s = .error .decode) ∨
    (∃ key, s.tovf = false ∧ dec32 s.txt = some key ∧ decodeText s = .ok key) := by
  unfold decodeText
  cases h : s.tovf
  · cases hd : dec32 s.txt <;> simp
  · simp

/-- Everything a command can do: the ends of the nine meanings (R70 to R72, R78, R79, R114, R122 to R124). -/
theorem exec_cases {i : Instr} {s t : State} (h : exec i s = .next t) :
    (i = .nop ∧ t = finish .ok s) ∨
    (i = .clrt ∧ t = finish .ok (clearText s)) ∨
    (∃ c, i = .putc c ∧ s.tlen < s.params.tmax ∧ t = finish .ok { s with txt := s.txt ++ [c] }) ∨
    (∃ c, i = .putc c ∧ ¬ s.tlen < s.params.tmax ∧ t = finish .txtovf { s with tovf := true }) ∨
    (∃ key, i = .construct ∧ decodeText s = .ok key ∧ t = finish .ok (clearText (install key (destroy s)))) ∨
    (∃ e, i = .construct ∧ decodeText s = .error e ∧ t = finish e (clearText (destroy s))) ∨
    (i = .zeroize ∧ t = finish .ok (clearText (destroy s))) ∨
    ((i = .hotp ∨ i = .ctrgen ∨ i = .totp ∨ i = .totpo) ∧ s.valid = false ∧ t = finish .noeng s) ∨
    ((i = .ctrgen ∨ i = .totp ∨ i = .totpo) ∧ s.valid = true ∧ s.engPeriod = 0 ∧ t = finish .period0 s) ∨
    (i = .hotp ∧ s.valid = true ∧ t = finish .ok (putCode s.ctr s)) ∨
    (i = .ctrgen ∧ s.valid = true ∧ s.engPeriod ≠ 0 ∧
      t = finish .ok (putTime { s with ctro := derive s.tlatch s.engPeriod s.ofs })) ∨
    (i = .totp ∧ s.valid = true ∧ s.engPeriod ≠ 0 ∧
      t = finish .ok (putTime (putCode (derive s.tlatch s.engPeriod 0) s))) ∨
    (i = .totpo ∧ s.valid = true ∧ s.engPeriod ≠ 0 ∧
      t = finish .ok (putTime (putCode (derive s.tlatch s.engPeriod s.ofs) s))) := by
  cases i with
  | nop => simpa [exec, execNop] using h
  | clrt => simpa [exec, execClrt] using h
  | putc c =>
    simp only [exec, execPutc] at h
    split at h <;> simp_all
  | construct =>
    simp only [exec, execConstruct] at h
    split at h <;> simp_all
  | zeroize => simpa [exec, execZeroize] using h
  | hotp =>
    simp only [exec, execHotp] at h
    split at h <;> simp_all
  | ctrgen => rcases timeCommand_cases h with ⟨hv, rfl⟩ | ⟨hv, hp, rfl⟩ | ⟨hv, hp, rfl⟩ <;> simp_all
  | totp => rcases timeCommand_cases h with ⟨hv, rfl⟩ | ⟨hv, hp, rfl⟩ | ⟨hv, hp, rfl⟩ <;> simp_all
  | totpo => rcases timeCommand_cases h with ⟨hv, rfl⟩ | ⟨hv, hp, rfl⟩ | ⟨hv, hp, rfl⟩ <;> simp_all

/-- A mapped register is found at its offset (R41). -/
@[simp] theorem regAt_offset (r : Reg) : regAt r.offset = some r := by
  cases r <;> decide

/-- What stands at an offset has that offset (R41). -/
theorem offset_of_regAt {off : Nat} {r : Reg} (h : regAt off = some r) : r.offset = off := by
  simpa using List.find?_some h

/-- Everything a host write can do (R43, R44, R58). -/
theorem hostWrite_cases (off : Nat) (v : Word) (s : State) :
    hostWrite off v s = s ∨
    (s.busy = true ∧ hostWrite off v s = dropWrite s) ∨
    (off = Reg.status.offset ∧ v[3] = true ∧ hostWrite off v s = { s with ovr := false }) ∨
    (off = Reg.cmd.offset ∧ s.busy = false ∧ hostWrite off v s = accept v s) ∨
    (off = Reg.cfgDigits.offset ∧ s.busy = false ∧ hostWrite off v s = { s with cfgDigits := v }) ∨
    (off = Reg.cfgPeriod.offset ∧ s.busy = false ∧ hostWrite off v s = { s with cfgPeriod := v }) ∨
    (off = Reg.ctrLo.offset ∧ s.busy = false ∧ hostWrite off v s = { s with ctr := setLo s.ctr v }) ∨
    (off = Reg.ctrHi.offset ∧ s.busy = false ∧ hostWrite off v s = { s with ctr := setHi s.ctr v }) ∨
    (off = Reg.ofsLo.offset ∧ s.busy = false ∧ hostWrite off v s = { s with ofs := setLo s.ofs v }) ∨
    (off = Reg.ofsHi.offset ∧ s.busy = false ∧ hostWrite off v s = { s with ofs := setHi s.ofs v }) := by
  unfold hostWrite
  cases hr : regAt off with
  | none => exact .inl rfl
  | some r =>
    rw [← offset_of_regAt hr]
    cases r <;> cases hb : s.busy <;> cases hv : v[3] <;> simp [writeReg, writeStatus, whenIdle, hb, hv, Reg.offset]

/-- The core's turn: nothing in `IDLE`, Complete in `BUSY` (R8, R57). -/
theorem coreTurn_cases {s t : State} (h : coreTurn s = .next t) :
    (s.busy = false ∧ t = s) ∨
    (∃ i, s.busy = true ∧ decode s.pend = .ok i ∧ exec i s = .next t) ∨
    (∃ e, s.busy = true ∧ decode s.pend = .error e ∧ t = finish .illcmd s) := by
  unfold coreTurn complete completeIllegal at h
  cases hb : s.busy <;> simp only [hb] at h
  · exact .inl ⟨rfl, by simpa [eq_comm] using h⟩
  · cases hd : decode s.pend <;> simp only [hd] at h
    · exact .inr (.inr ⟨_, rfl, rfl, fail_eq_next.1 h⟩)
    · exact .inr (.inl ⟨_, rfl, rfl, h⟩)

/-- A poll either reads `STATUS`, after a read of it that saw the core busy, or passes (R67). -/
theorem pollStatus_cases (s : State) :
    (lastReadBusy s = true ∧ pollStatus s = recordRead Reg.status.offset s) ∨
    (lastReadBusy s = false ∧ pollStatus s = s) := by
  unfold pollStatus
  cases h : lastReadBusy s <;> simp

/-- A poll changes nothing but the host's record of what it read. -/
theorem pollStatus_frame (s : State) : pollStatus s = { s with env := { s.env with seen := (pollStatus s).env.seen } } := by
  rcases pollStatus_cases s with ⟨_, h⟩ | ⟨_, h⟩
  · rw [h]
    rfl
  · rw [h]

/-- Bit 0 of `STATUS` is `BUSY` (R20). -/
theorem statusWord_busy (s : State) : (statusWord s)[0] = s.busy := by
  rw [← BitVec.getLsbD_eq_getElem]
  simp only [statusWord, BitVec.getLsbD_setWidth, BitVec.getLsbD_append]
  simp

/-- After a read of `STATUS` the host knows whether the core is busy. -/
@[simp] theorem lastReadBusy_recordRead (s : State) :
    lastReadBusy (recordRead Reg.status.offset s) = s.busy := by
  simpa [lastReadBusy, recordRead, hostRead, regAt, allRegs, Reg.offset, readReg] using statusWord_busy s

/-- A turn of the environment that does not stop (R8, R45). -/
theorem envTurn_cases {e : Event} {s t : State} (h : envTurn e s = .next t) :
    (∃ off v, e = .write off v ∧ portOffset off = true ∧ t = hostWrite off v s) ∨
    (∃ off, e = .read off ∧ portOffset off = true ∧ t = recordRead off s) ∨
    (e = .reset ∧ t = resetBlock s) ∨
    (∃ v, e = .time v ∧ t = fixTime v s) ∨
    (e = .core ∧ coreTurn s = .next t) ∨
    (e = .poll ∧ t = pollStatus s) := by
  cases e with
  | write off v =>
    simp only [envTurn] at h
    split at h
    · exact .inl ⟨off, v, rfl, ‹_›, (Host.Outcome.next.inj h).symm⟩
    · cases h
  | read off =>
    simp only [envTurn] at h
    split at h
    · exact .inr (.inl ⟨off, rfl, ‹_›, (Host.Outcome.next.inj h).symm⟩)
    · cases h
  | reset => exact .inr (.inr (.inl ⟨rfl, (Host.Outcome.next.inj h).symm⟩))
  | time v => exact .inr (.inr (.inr (.inl ⟨v, rfl, (Host.Outcome.next.inj h).symm⟩)))
  | core => exact .inr (.inr (.inr (.inr (.inl ⟨rfl, h⟩))))
  | poll => exact .inr (.inr (.inr (.inr (.inr ⟨rfl, (Host.Outcome.next.inj h).symm⟩))))

/-- A step is the core's turn when the script has ended, and the script's next turn otherwise. -/
theorem step_cases {s : State} {r : Host.Outcome State Fault Refusal} (h : step s = r) :
    (s.env.script = [] ∧ coreTurn s = r) ∨
    (∃ e rest, s.env.script = e :: rest ∧ envTurn e (s.withScript rest) = r) := by
  unfold step at h
  cases hs : s.env.script with
  | nil => exact .inl ⟨rfl, by simpa [hs] using h⟩
  | cons e rest => exact .inr ⟨e, rest, rfl, by simpa [hs] using h⟩

theorem step_of_script_nil {s : State} (h : s.env.script = []) : step s = coreTurn s := by
  simp [step, h]

theorem step_of_script_cons {s : State} {e : Event} {rest : List Event} (h : s.env.script = e :: rest) :
    step s = envTurn e (s.withScript rest) := by
  simp [step, h]

end Sys2Proof.Machine
end

