-- ==== Sys2Proof/Laws/PerInstr.lean ====
section
/-! SUPPORT. Statements about every instruction, made constructor by constructor: the word of each command is selected by
the row of R63's table that bears its name. -/

namespace Sys2Proof.Laws.RowOfTable

/-- The command's word is one its own row of the opcode table selects (R63). -/
def Statement (i : Instr) : Prop :=
  ∃ r ∈ opcodeTable, r.mnemonic = i.mnemonic ∧ r.selects (encode i) = true

theorem nop : Statement .nop := ⟨⟨"NOP", 0x00000000, 0xFFFFFFFF⟩, by decide⟩

theorem clrt : Statement .clrt := ⟨⟨"CLRT", 0x00000001, 0xFFFFFFFF⟩, by decide⟩

theorem putc (imm8 : Byte) : Statement (.putc imm8) := by
  refine ⟨⟨"PUTC", 0x00000002, 0xFFFF00FF⟩, by decide, rfl, ?_⟩
  revert imm8
  decide

theorem construct : Statement .construct := ⟨⟨"CONSTRUCT", 0x00000003, 0xFFFFFFFF⟩, by decide⟩

theorem zeroize : Statement .zeroize := ⟨⟨"ZEROIZE", 0x00000004, 0xFFFFFFFF⟩, by decide⟩

theorem hotp : Statement .hotp := ⟨⟨"HOTP", 0x00000010, 0xFFFFFFFF⟩, by decide⟩

theorem ctrgen : Statement .ctrgen := ⟨⟨"CTRGEN", 0x00000011, 0xFFFFFFFF⟩, by decide⟩

theorem totp : Statement .totp := ⟨⟨"TOTP", 0x00000012, 0xFFFFFFFF⟩, by decide⟩

theorem totpo : Statement .totpo := ⟨⟨"TOTPO", 0x00000013, 0xFFFFFFFF⟩, by decide⟩

end Sys2Proof.Laws.RowOfTable
end

