-- ==== Sys2Proof/Tests/Slice0.lean ====
section
/-! SUPPORT. The model's own tests, on values of spec/95_test_vectors.md or computed by hand from the rules, and for each
statement with hypotheses a concrete state that meets them. -/

namespace Sys2Proof.Tests

open Sys2Proof.Machine

/-! ### Helpers -/

/-- What a test looks at in the next state of a step. -/
def after {α : Type} (r : Host.Outcome State Fault Refusal) (f : State → α) : Option α :=
  match r with
  | .next t => some (f t)
  | .fault _ => none
  | .refused _ => none

/-- A text of ASCII characters. -/
def ascii (text : String) : List Byte := text.toList.map (fun c => BitVec.ofNat 8 c.toNat)

/-- The document's test key (95_test_vectors.md). -/
def testKey : List Byte := ascii "12345678901234567890"

/-- A block with the command word `w` in flight and no turn to come. -/
def inFlight (w : Word) : State := { State.reset with busy := true, pend := w }

/-- An instance of the test key, six digits, period 30, with the time 59 latched. -/
def engine : State :=
  { State.reset with
    valid := true, secret := testKey, engDigits := 6, engPeriod := 30, tlatch := 59 }

/-- A block of the least capacity, `TMAX = 8`, whose text buffer is full. -/
def fullText : State := { State.reset with params := ⟨8, by decide⟩, txt := List.replicate 8 0x41 }

/-! ### Well-formedness: one ill-formed term for each check -/

theorem test_offset_misaligned_refused : portOffset 0x02 = false := by decide
theorem test_offset_above_port_refused : portOffset 0x100 = false := by decide
theorem test_offset_edges_accepted : portOffset 0x00 = true ∧ portOffset 0xFC = true := by decide
theorem test_tmax_not_multiple_of_8_refused : legalTMAX 12 = false := by decide
theorem test_tmax_too_small_refused : legalTMAX 0 = false := by decide
theorem test_tmax_too_large_refused : legalTMAX 65536 = false := by decide
theorem test_tmax_edges_accepted : legalTMAX 8 = true ∧ legalTMAX 65528 = true := by decide
/-- No ill-formed instruction term exists: the operand's type is its eight bits (R62). -/
theorem test_instr_always_wellFormed (i : Instr) : i.wellFormed = true := by
  cases i with
  | putc imm8 => exact decide_eq_true imm8.isLt
  | _ => rfl

/-! ### Decoding: the words of R63 and R66, written out bit by bit (rsv, imm, op) -/

theorem test_decode_nop : decode 0b0000000000000000_00000000_00000000 = .ok .nop := by decide
theorem test_decode_clrt : decode 0b0000000000000000_00000000_00000001 = .ok .clrt := by decide
theorem test_decode_putc : decode 0b0000000000000000_01000001_00000010 = .ok (.putc 0x41) := by decide
theorem test_decode_construct : decode 0b0000000000000000_00000000_00000011 = .ok .construct := by decide
theorem test_decode_zeroize : decode 0b0000000000000000_00000000_00000100 = .ok .zeroize := by decide
theorem test_decode_hotp : decode 0b0000000000000000_00000000_00010000 = .ok .hotp := by decide
theorem test_decode_ctrgen : decode 0b0000000000000000_00000000_00010001 = .ok .ctrgen := by decide
theorem test_decode_totp : decode 0b0000000000000000_00000000_00010010 = .ok .totp := by decide
theorem test_decode_totpo : decode 0b0000000000000000_00000000_00010011 = .ok .totpo := by decide
theorem test_decode_putc_ff : decode 0x0000FF02 = .ok (.putc 0xFF) := by decide
theorem test_decode_reserved : decode 0x80000003 = .error .reservedBits := by decide
theorem test_decode_immediate : decode 0x00000105 = .error .immediate := by decide
theorem test_decode_opcode : decode 0x00000014 = .error .opcode := by decide
theorem test_decode_table_word : decodeTableWord 32 0x00004102 = some (.putc 0x41) := by decide

/-! ### The pure functions (95_test_vectors.md sections 1 and 2) -/

theorem test_dec32_foob : dec32 (ascii "MZXW6YQ=") = some [0x66, 0x6f, 0x6f, 0x62] := by decide
theorem test_dec32_discarded_bits : dec32 (ascii "MZ======") = some [0x66] := by decide
theorem test_dec32_pad_5 : dec32 (ascii "MZX=====") = none := by decide
theorem test_dec32_inner_pad : dec32 (ascii "MY=A====") = none := by decide
theorem test_enc32_fooba : enc32 (ascii "fooba") = ascii "MZXW6YTB" := by decide
theorem test_enc32_f : enc32 (ascii "f") = ascii "MY======" := by decide
theorem test_sha1_abc :
    compressBlocks 1 (pad (ascii "abc")) initialChain = ⟨0xa9993e36, 0x4706816a, 0xba3e2571, 0x7850c26c, 0x9cd0d89d⟩ := by
  decide +kernel
theorem test_dynTrunc_counting : dynTrunc (Vector.ofFn (fun i => BitVec.ofNat 8 i.val)) = 0x03040506 := by decide
theorem test_dynTrunc_masks : dynTrunc (Vector.replicate 20 0xFF) = 0x7FFFFFFF := by decide
theorem test_reduce_six : reduce 2147483647 6 = 483647 := by decide
theorem test_reduce_many : reduce 2147483647 4294967295 = 2147483647 := by decide
theorem test_derive_vector : derive 1111111109 30 0 = 37037036 := by decide
theorem test_derive_floor : derive (BitVec.ofInt 64 (-31)) 30 0 = 0xFFFFFFFFFFFFFFFE := by decide

/-! ### One step of each command -/

theorem test_nop_clears_err : after (step { inFlight 0 with err := 1 }) (fun t => (statusWord t, t.pend)) = some (0, 0) := by
  decide
theorem test_clrt_empties : after (exec .clrt { fullText with tovf := true, ovr := true }) (fun t => (lenWord t, statusWord t))
    = some (0, 0x8) := by decide
theorem test_putc_stores : after (step (inFlight 0x00004D02)) (fun t => (t.txt, lenWord t, statusWord t))
    = some ([0x4D], 0x00010000, 0) := by decide
/-- The 129th character of program P4 (95_test_vectors.md section 4), `TMAX = 128`. -/
theorem test_putc_full :
    after (exec (.putc 0x41) { State.reset with valid := true, txt := List.replicate 128 0x41 })
      (fun t => (lenWord t, statusWord t)) = some (0x00800000, 0x00000026) := by decide +kernel
theorem test_construct_decodes : after (step { inFlight 3 with txt := ascii "MY======", code := 7, cfgDigits := 8 })
    (fun t => (t.secret, t.engDigits, t.code, statusWord t, lenWord t)) = some ([0x66], 8, 0, 2, 1) := by decide +kernel
theorem test_construct_malformed : after (exec .construct { engine with txt := ascii "MY" })
    (fun t => (t.secret, statusWord t, lenWord t)) = some ([], 0x10, 0) := by decide +kernel
theorem test_construct_overflowed : after (exec .construct { engine with tovf := true })
    (fun t => (t.secret, statusWord t)) = some ([], 0x20) := by decide
theorem test_zeroize : after (exec .zeroize { engine with code := 5, cfgDigits := 8 })
    (fun t => (t.secret, t.code, t.cfgDigits, statusWord t)) = some ([], 0, 8, 0) := by decide
/-- RFC 4226 Appendix D, count 1 (95_test_vectors.md section 3.1). -/
theorem test_hotp_vector : after (step { engine with ctr := 1, busy := true, pend := 0x10 })
    (fun t => (t.code, t.dbc, t.ctro, statusWord t)) = some (287082, 0x41397EEA, 1, 2) := by decide +kernel
theorem test_hotp_no_engine : after (step (inFlight 0x10)) statusWord = some 0x30 := by decide
theorem test_ctrgen_negative_offset : after (exec .ctrgen { engine with ofs := 0xFFFFFFFFFFFFFFFF, code := 9 })
    (fun t => (t.ctro, t.tsnap, t.code)) = some (0, 59, 9) := by decide
theorem test_totp_ignores_offset : after (exec .totp { engine with ofs := 7, engDigits := 8 })
    (fun t => (t.code, t.ctro, t.tsnap)) = some (94287082, 1, 59) := by decide +kernel
theorem test_totp_period_zero : after (exec .totp { engine with engPeriod := 0, ctro := 5 })
    (fun t => (statusWord t, t.ctro)) = some (0x42, 5) := by decide
theorem test_totpo_minus_one : after (exec .totpo { engine with ofs := 0xFFFFFFFFFFFFFFFF, engDigits := 8 })
    (fun t => (t.code, t.dbc, t.ctro)) = some (84755224, 0x4C93CF18, 0) := by decide +kernel
theorem test_illegal_word : after (step (inFlight 0x00014102)) (fun t => (statusWord t, lenWord t)) = some (0x50, 0) := by
  decide
theorem test_fetch_word_runs_next :
    after (step (State.reset.withFetchWord 32 0x00004102)) (fun t => t.txt) = some [0x41] := by decide

/-! ### The port (95_test_vectors.md section 2.5) -/

theorem test_port_reset_values : hostRead State.reset 0x08 = 6 ∧ hostRead State.reset 0x0C = 30 ∧
    hostRead State.reset 0x58 = 0 ∧ hostRead State.reset 0xFC = 0 := by decide
theorem test_port_halves :
    (hostWrite 0x10 0x11223344 (hostWrite 0x14 0xAABBCCDD State.reset)).ctr = 0xAABBCCDD11223344 := by decide
theorem test_port_read_only : hostWrite 0x20 0x12345678 State.reset = State.reset := by decide
theorem test_port_dropped_write : (hostWrite 0x10 5 (inFlight 0x10)).ctr = 0 ∧ (hostWrite 0x10 5 (inFlight 0x10)).ovr = true := by
  decide
theorem test_port_clears_ovr : (hostWrite 0x04 0x8 { inFlight 0 with ovr := true }).ovr = false ∧
    (hostWrite 0x04 0xFFFFFFF7 { inFlight 0 with ovr := true }).ovr = true := by decide
theorem test_accept_samples_time :
    (hostWrite 0x00 0x12 { State.reset with env := { State.reset.env with timeIn := some 59 } }).tlatch = 59 := by decide
theorem test_reset_keeps_time_input :
    after (step { engine with busy := true, env := { engine.env with script := [.reset], timeIn := some 3 } })
      (fun t => (t.valid, t.busy, t.secret, t.env.timeIn)) = some (false, false, [], some 3) := by decide

/-! ### Host scripts (30_encoding.md rules R66, R67) -/

theorem test_script_wr64_negative :
    (Stmt.wr64 .ofs (-1)).turns = [.write 0x18 0xFFFFFFFF, .write 0x1C 0xFFFFFFFF] := by decide
theorem test_script_puts_waits : (Stmt.puts (ascii "A") 1).turns =
    [.write 0x00 0x00004102, .read 0x04, .core, .poll] := by decide
/-- A `WAIT` begun in `IDLE` reads `STATUS` once, whatever number it carries (R67). -/
theorem test_script_wait_stops_at_first_idle_read :
    after (Host.Core.run Sys2Proof.core (waitTurns 3).length (State.reset.withScript (waitTurns 3))) (fun t => t.env.seen)
      = some [⟨0x04, 0⟩] := by decide
/-- A `WAIT` begun in `BUSY` reads until `s[0] = 0` (R67). -/
theorem test_script_wait_polls_while_busy :
    after (Host.Core.run Sys2Proof.core (waitTurns 2).length ((inFlight 0x10).withScript (waitTurns 2)))
      (fun t => t.env.seen) = some [⟨0x04, 0x30⟩, ⟨0x04, 0x01⟩, ⟨0x04, 0x01⟩] := by decide

/-- The instance of program P3 (95_test_vectors.md section 4) before its bare `HOTP`: `CTR = 1`, the code of `CTR = 0` in
`CODE`. -/
def beforeBareHotp : State :=
  { State.reset with
    valid := true, secret := [0x48, 0x65, 0x6c, 0x6c, 0x6f, 0x21, 0xde, 0xad, 0xbe, 0xef], engDigits := 6, ctr := 1
    code := 0x00045088 }
/-- P3, the schedule shown: Complete runs after `RD CODE`. -/
theorem test_script_p3_complete_late : claimsHold
    [.cmd .hotp, .wr 0x10 5, .cmd .zeroize, .expect 0x04 0x0000000B, .expect 0x20 0x00045088, .wait 0,
     .expect 0x04 0x0000000A, .expect 0x20 0x000F34CA, .expect 0x10 1, .clrOvr, .expect 0x04 0x00000002,
     .cmdWait .zeroize 1, .expect 0x04 0] beforeBareHotp = true := by decide +kernel
/-- P3, the other schedule: Complete runs immediately after each Accept, so `CTR = 5`, no `OVR`, and the slot is empty. -/
theorem test_script_p3_complete_at_once : claimsHold
    [.cmd .hotp, .coreTurn, .wr 0x10 5, .cmd .zeroize, .coreTurn, .expect 0x04 0, .expect 0x20 0, .wait 0,
     .expect 0x10 5] beforeBareHotp = true := by decide +kernel
/-- A claim that is false of the run fails. -/
theorem test_script_expect_fails : claimsHold [.expect 0x08 7] State.reset = false := by decide

/-! ### Witnesses: for each statement with hypotheses, a concrete state that meets them -/

theorem witness_StepRunsDecodedCommand :
    (inFlight 0x10).busy = true ∧ decode (inFlight 0x10).pend = .ok .hotp ∧ (inFlight 0x10).env.script = [] ∧
    ((inFlight 0x10).withScript [.core, .read 4]).env.script = .core :: [.read 4] := by decide

theorem witness_DecodeFollowsOpcodeTable :
    (⟨"PUTC", 0x00000002, 0xFFFF00FF⟩ : OpcodeRow) ∈ opcodeTable ∧
    (⟨"PUTC", 0x00000002, 0xFFFF00FF⟩ : OpcodeRow).selects 0x0000FF02 = true ∧
    decode 0x0000FF02 = .ok (.putc 0xFF) := by decide

theorem witness_IllegalWordsFailWithIllcmd :
    (inFlight 0x00000105).busy = true ∧ decode (inFlight 0x00000105).pend = .error .immediate ∧
    (inFlight 0x00000105).env.script = [] ∧ State.reset.busy = false ∧
    ((inFlight 0x00000105).withScript [.core]).env.script = .core :: [] := by decide

theorem witness_NopClearsErr : State.reset.busy = false := by decide

theorem witness_PutcAppendsOrOverflows :
    State.reset.tlen < State.reset.params.tmax ∧
    ({ fullText with txt := List.replicate 7 0x41 } : State).tlen < fullText.params.tmax ∧
    ¬ fullText.tlen < fullText.params.tmax := by decide

theorem witness_ConstructInstallsOrEmptiesSlot :
    (State.reset.tovf = false ∧ dec32 State.reset.txt = some []) ∧
    ({ fullText with tovf := true } : State).tovf = true ∧
    (({ State.reset with txt := ascii "MY" } : State).tovf = false ∧
      dec32 ({ State.reset with txt := ascii "MY" } : State).txt = none) := by decide

theorem witness_ZeroizeClearsSecrets :
    (inFlight 0x10).busy = true ∧ Event.read 0xFC ≠ .core ∧ Event.read 0xFC ≠ .reset ∧
    ∃ t, envTurn (.read 0xFC) (inFlight 0x10) = .next t := ⟨rfl, by decide, by decide, ⟨_, rfl⟩⟩

theorem witness_HotpComputesCode : State.reset.valid = false ∧ engine.valid = true := by decide

theorem witness_time_commands :
    State.reset.busy = false ∧ State.reset.valid = false ∧
    (({ engine with engPeriod := 0 } : State).valid = true ∧ ({ engine with engPeriod := 0 } : State).engPeriod = 0) ∧
    (engine.valid = true ∧ engine.engPeriod ≠ 0 ∧ (1 : DWord) = derive engine.tlatch engine.engPeriod 0 ∧
      (1 : DWord) = derive engine.tlatch engine.engPeriod engine.ofs) ∧
    engine.ofs = 0 := by decide

theorem witness_CommandFrame :
    (∃ t, exec .nop engine = .next t) ∧ Instr.nop ∉ [Instr.clrt, .construct, .zeroize] ∧ (∀ c, Instr.nop ≠ .putc c) ∧
    Instr.nop ∉ [Instr.construct, .zeroize, .hotp, .ctrgen, .totp, .totpo] :=
  ⟨⟨_, rfl⟩, by decide, (by intro c h; cases h), by decide⟩

theorem witness_FailingCommandChangesNothingElse :
    after (exec .hotp State.reset) (fun t => t.err ≠ 0) = some True ∧
    after (exec (.putc 0x41) fullText) (fun t => t.err) = some 2 ∧
    after (exec .construct { engine with tovf := true }) (fun t => t.err) = some 2 :=
  ⟨by simp [exec, execHotp, State.reset, fail, finish, after, ErrCode.code], by decide, by decide⟩

theorem witness_HostReadReturnsRegister :
    (State.reset.withScript [.read 0xFC]).env.script = .read 0xFC :: [] ∧ portOffset 0xFC = true ∧ 0x54 < 0xFC := by
  decide

theorem witness_HostWriteStoresOrDrops :
    State.reset.busy = false ∧ (inFlight 0).busy = true ∧ 0x1C ∈ [0x00, 0x08, 0x0C, 0x10, 0x14, 0x18, 0x1C] ∧
    0x20 ∉ [0x00, 0x04, 0x08, 0x0C, 0x10, 0x14, 0x18, 0x1C] := by decide

theorem witness_ReadOnlyAndUnmappedWritesIgnored :
    0x20 ≤ 0x54 ∧ 0x58 ≤ 0xFC ∧ (0x00000008 : Word)[3] = (0xFFFFFFFF : Word)[3] := by decide

/-- An instance with a code, between commands: a state that meets the invariant and is not the reset state. -/
def queried : State :=
  { engine with params := ⟨32, by decide⟩, ctr := 1, err := 3, tovf := true, txt := List.replicate 32 0x41 }

theorem queried_inv : Inv queried where
  secretFits := by decide
  textFits := by decide
  emptySlot := by intro h; cases h
  truncated := by decide
  reduced := by decide
  errKnown := by decide
  overflowFull := by decide

/-- The empty slot after `Destroy()`. -/
theorem fullText_slotEmpty : SlotEmpty fullText := ⟨rfl, rfl, rfl, rfl, rfl, rfl, rfl, rfl⟩

theorem witness_LenShowsBothLengths : Inv queried ∧ Inv fullText ∧ fullText.valid = false :=
  ⟨queried_inv, ⟨by decide, by decide, fun _ => fullText_slotEmpty, by decide, by decide, by decide, by decide⟩, rfl⟩

theorem witness_StepKeepsInv :
    Inv (queried.withScript [.write 0x10 5]) ∧ (∃ t, step (queried.withScript [.write 0x10 5]) = .next t) :=
  ⟨⟨queried_inv.secretFits, queried_inv.textFits, queried_inv.emptySlot, queried_inv.truncated, queried_inv.reduced,
    queried_inv.errKnown, queried_inv.overflowFull⟩, ⟨_, rfl⟩⟩

theorem witness_InvBoundsTheResults : Inv queried ∧ queried.engDigits.toNat ≤ 9 := ⟨queried_inv, by decide⟩

theorem witness_PortRefusesWhatItLacks :
    (State.reset.withScript [.write 0x02 1]).env.script = .write 0x02 1 :: [] ∧ 0x02 % 4 ≠ 0 ∧
    (State.reset.withScript [.read 0x100]).env.script = .read 0x100 :: [] ∧ 0xFC < 0x100 ∧
    (State.reset.withScript [.read 0xFC]).env.script = .read 0xFC :: [] ∧ 0xFC % 4 = 0 ∧ 0xFC ≤ 0xFC := by decide

theorem witness_AcceptLatchesWordAndTime :
    State.reset.busy = false ∧ State.reset.env.timeIn = none ∧ (fixTime 59 State.reset).env.timeIn = some 59 ∧
    (fixTime 59 State.reset).busy = false := by decide

theorem witness_BusyWritesAreDropped : (inFlight 0).busy = true ∧ Reg.cmd ∈ idleWritable ∧ Reg.ofsHi ∈ idleWritable := by
  decide

theorem witness_ResetStepDiscardsEverything : ((inFlight 0x10).withScript [.reset]).env.script = .reset :: [] := by decide

/-- The next steps the rules of the whole machine speak of, each in a state of its own: for the statements on the phase,
the slot, the operands, `ERR` and the parameters. -/
theorem witness_next_steps :
    (Completes (inFlight 3) ∧ decode (inFlight 3).pend = .ok .construct ∧ ∃ t, step (inFlight 3) = .next t) ∧
    (ResetNext (engine.withScript [.reset]) ∧ ∃ t, step (engine.withScript [.reset]) = .next t) ∧
    (WriteNext (State.reset.withScript [.write 0 0x10]) Reg.cmd.offset 0x10 ∧ State.reset.busy = false ∧
      after (step (State.reset.withScript [.write 0 0x10])) (fun t => t.busy) = some true) ∧
    (CoreNext engine ∧ engine.busy = false ∧ ∃ t, step engine = .next t) :=
  ⟨⟨⟨.inl rfl, rfl⟩, by decide, ⟨_, rfl⟩⟩, ⟨⟨_, rfl⟩, ⟨_, rfl⟩⟩, ⟨⟨_, rfl⟩, rfl, by decide⟩, .inl rfl, rfl, ⟨_, rfl⟩⟩

/-- The slot changes under `CONSTRUCT`, an operand under an idle write. -/
theorem witness_slot_and_operand_change :
    (∃ t, step (inFlight 3) = .next t ∧ ¬ SameSlot (inFlight 3) t) ∧
    (∃ t, step (State.reset.withScript [.write 0x1C 1]) = .next t ∧
      ¬ SameOperands (State.reset.withScript [.write 0x1C 1]) t) := by
  refine ⟨⟨_, rfl, ?_⟩, ⟨_, rfl, ?_⟩⟩
  · intro h
    exact absurd h.1 (by decide)
  · intro h
    exact absurd h.2.2.2 (by decide)

theorem witness_OnlyOvrChangesWhileBusy :
    ((inFlight 0x10).withScript [.write 0x10 5]).busy = true ∧
    ¬ CoreNext ((inFlight 0x10).withScript [.write 0x10 5]) ∧ ¬ ResetNext ((inFlight 0x10).withScript [.write 0x10 5]) ∧
    (∃ t, step ((inFlight 0x10).withScript [.write 0x10 5]) = .next t) ∧ (0x10 : Nat) ≠ Reg.status.offset :=
  ⟨rfl, (by rintro (h | ⟨_, h⟩) <;> cases h), (by rintro ⟨_, h⟩; cases h), ⟨_, rfl⟩, by decide⟩

theorem witness_OvrIsStickyAndWriteOneToClear :
    (WriteNext ((inFlight 0).withScript [.write 0 4]) Reg.cmd.offset 4 ∧
      after (step ((inFlight 0).withScript [.write 0 4])) (fun t => t.ovr) = some true) ∧
    (WriteNext ({ inFlight 0 with ovr := true }.withScript [.write 4 8]) Reg.status.offset 8 ∧ (8 : Word)[3] = true ∧
      after (step ({ inFlight 0 with ovr := true }.withScript [.write 4 8])) (fun t => t.ovr) = some false) ∧
    ResetNext ({ inFlight 0 with ovr := true }.withScript [.reset]) :=
  ⟨⟨⟨_, rfl⟩, by decide⟩, ⟨⟨_, rfl⟩, by decide, by decide⟩, ⟨_, rfl⟩⟩

theorem witness_ErrIsTheLastOutcome :
    Completes (inFlight 0) ∧ (inFlight 0).env.script = [] ∧ decode (inFlight 0).pend = .ok .nop ∧
    ¬ Completes engine ∧ ¬ ResetNext engine ∧ (∃ t, step engine = .next t) :=
  ⟨⟨.inl rfl, rfl⟩, rfl, by decide, (by rintro ⟨_, h⟩; cases h), (by rintro ⟨_, h⟩; cases h), ⟨_, rfl⟩⟩

theorem witness_EveryScriptComesToRest :
    ((inFlight 0x10).withScript [.read 4, .poll, .write 0xFC 1, .time 9, .reset, .core]).env.script.all portTurn = true ∧
    AtRest engine := ⟨by decide, rfl, rfl⟩

theorem witness_WaitedScriptsNeverOverrun :
    State.reset.busy = false ∧ State.reset.ovr = false ∧
    [Stmt.wr 0x08 8, .loadKey (ascii "MY======") 1, .time 59, .cmdWait .totp 2, .expect 0x20 0, .wait 3, .coreTurn,
     .reset].all Stmt.waitsForCommands = true := by decide

theorem witness_WaitReadsStatusUntilIdle : State.reset.busy = false ∧ (inFlight 0x10).busy = true := by decide

theorem witness_ExpectReadsAndClaims :
    portOffset Reg.cfgDigits.offset = true ∧ hostRead State.reset Reg.cfgDigits.offset = 6 ∧
    hostRead State.reset Reg.cfgDigits.offset ≠ 7 := by decide

/-- Two instances whose keys differ in a byte. -/
theorem witness_SameButSecrets :
    SameButSecrets engine { engine with secret := List.replicate 20 0x6B } ∧
    ¬ (Completes engine ∧ ∃ i ∈ [Instr.construct, .hotp, .totp, .totpo], decode engine.pend = .ok i) ∧
    (∃ t, step engine = .next t) :=
  ⟨⟨rfl, by decide, rfl⟩, (by rintro ⟨⟨_, h⟩, _⟩; cases h), ⟨_, rfl⟩⟩

theorem witness_Dec32DecodesBitByBit :
    dec32 (ascii "MZXW6YQ=") = some [0x66, 0x6f, 0x6f, 0x62] ∧ padCount (ascii "MZXW6YQ=") = 1 ∧
    padCount (ascii "MZXW6YTB") = 0 ∧ padCount (ascii "MZXW6===") = 3 ∧ padCount (ascii "MZXQ====") = 4 ∧
    padCount (ascii "MY======") = 6 ∧ (dec32 (ascii "MY======")).isSome = true ∧ (dec32 (ascii "MZXQ====")).isSome = true ∧
    (dec32 (ascii "MZXW6===")).isSome = true ∧ (dec32 (ascii "MZXW6YTB")).isSome = true := by decide

theorem witness_Base32Alphabet :
    (0x41 ≤ (0x5A : Byte).toNat ∧ (0x5A : Byte).toNat ≤ 0x5A) ∧ (0x32 ≤ (0x37 : Byte).toNat ∧ (0x37 : Byte).toNat ≤ 0x37) ∧
    ¬ (0x41 ≤ padChar.toNat ∧ padChar.toNat ≤ 0x5A) ∧ ¬ (0x32 ≤ padChar.toNat ∧ padChar.toNat ≤ 0x37) := by decide

theorem witness_LoadKeyInstallsTheKey :
    State.reset.busy = false ∧ testKey.length ≤ State.reset.params.kmax ∧
    (List.replicate 80 (0x6B : Byte)).length ≤ State.reset.params.kmax := by decide

theorem witness_ScheduleFollowsRecurrence : (List.replicate 64 (0 : Byte)).length = 64 ∧ 15 < 16 ∧ 16 ≤ 79 ∧ 79 < 80 := by
  decide

theorem witness_BlockKeyIsOneBlock :
    (List.replicate 64 (0x6B : Byte)).length ≤ 64 ∧ 64 < (List.replicate 65 (0x6B : Byte)).length := by decide

theorem witness_HmacKeyEquivalences :
    ([] : List Byte).length + 1 ≤ 64 ∧ testKey.length + 44 ≤ 64 ∧ 64 < (List.replicate 80 (0x6B : Byte)).length := by decide

theorem witness_DynTruncSelectsTheWindow :
    15 = ((digestWord (Vector.replicate 20 0xFF) 4).extractLsb' 0 4).toNat := by decide

theorem witness_ReduceIsExactModulo :
    (0x7FFFFFFF : Word).toNat < 2 ^ 31 ∧ 10 ≤ (10 : Word).toNat ∧ (0 : Word) = 0 := by decide

theorem witness_DeriveIsFloorDivisionPlusOffset :
    (30 : Word) ≠ 0 ∧ (0 : Int) ≤ (59 : DWord).toInt ∧ (0xFFFFFFFFFFFFFFE1 : DWord).toInt < 0 := by decide

theorem witness_WindowRelation : engine.valid = true ∧ engine.engPeriod ≠ 0 := by decide

theorem witness_TimeIsSampledAtAccept : engine.busy = false ∧ engine.valid = true ∧ engine.engPeriod ≠ 0 := by decide

end Sys2Proof.Tests
end

/-! PROOFS. The registers assembled from the state, `STATUS` and `LEN` (spec/10_state.md rules R20, R25), the values after
Reset (R34), and who sets and clears `OVR` (R23). -/

namespace Sys2Proof

theorem Params.tmax_le (p : Params) : p.tmax ≤ 65528 := by
  have h := p.legal
  simp only [legalTMAX, Bool.and_eq_true, decide_eq_true_eq] at h
  exact h.2

theorem Params.kmax_le_tmax (p : Params) : p.kmax ≤ p.tmax := by
  unfold Params.kmax
  omega

end Sys2Proof

namespace Sys2Proof.Machine

/-! ### The port at a mapped register -/

theorem hostRead_offset (s : State) (r : Reg) : hostRead s r.offset = readReg s r := by
  simp [hostRead]

theorem hostWrite_offset (r : Reg) (v : Word) (s : State) : hostWrite r.offset v s = writeReg v s r := by
  simp [hostWrite]

/-- The three kinds of registers a write tells apart: stored in `IDLE` and dropped in `BUSY`, `STATUS`, and read-only (R43,
R44). What is stored never reaches `OVR`. -/
theorem writeReg_cases (v : Word) (s : State) (r : Reg) :
    (r ∈ idleWritable ∧ ∃ stored : State, writeReg v s r = whenIdle s stored ∧ stored.ovr = s.ovr) ∨
    (r = .status ∧ writeReg v s r = writeStatus v s) ∨
    (r ∉ idleWritable ∧ r ≠ .status ∧ writeReg v s r = s) := by
  cases r with
  | cmd | cfgDigits | cfgPeriod | ctrLo | ctrHi | ofsLo | ofsHi => exact .inl ⟨by decide, _, rfl, rfl⟩
  | status => exact .inr (.inl ⟨rfl, rfl⟩)
  | code | dbc | ctroLo | ctroHi | tsnapLo | tsnapHi | len | engDigits | engPeriod | digest0 | digest1 | digest2
  | digest3 | digest4 => exact .inr (.inr ⟨by decide, by decide, rfl⟩)

theorem hostWrite_idleWritable_of_busy {r : Reg} (hr : r ∈ idleWritable) (v : Word) {s : State} (hb : s.busy = true) :
    hostWrite r.offset v s = dropWrite s := by
  rw [hostWrite_offset]
  rcases writeReg_cases v s r with ⟨_, stored, h, _⟩ | ⟨rfl, _⟩ | ⟨hn, _⟩
  · rw [h, whenIdle_busy hb]
  · exact absurd hr (by decide)
  · exact absurd hr hn

theorem hostWrite_status (v : Word) (s : State) :
    hostWrite Reg.status.offset v s = { s with ovr := s.ovr && !v[3] } := by
  rw [hostWrite_offset]
  cases hv : v[3] <;> simp [writeReg, writeStatus, hv]

/-! ### `STATUS` and `LEN` -/

theorem statusWord_valid (s : State) : (statusWord s)[1] = s.valid := by
  rw [← BitVec.getLsbD_eq_getElem]
  simp only [statusWord, BitVec.getLsbD_setWidth, BitVec.getLsbD_append]
  simp

theorem statusWord_tovf (s : State) : (statusWord s)[2] = s.tovf := by
  rw [← BitVec.getLsbD_eq_getElem]
  simp only [statusWord, BitVec.getLsbD_setWidth, BitVec.getLsbD_append]
  simp

theorem statusWord_ovr (s : State) : (statusWord s)[3] = s.ovr := by
  rw [← BitVec.getLsbD_eq_getElem]
  simp only [statusWord, BitVec.getLsbD_setWidth, BitVec.getLsbD_append]
  simp

/-- Above the four flags stands `ERR`, and above its four bits nothing (R20). -/
theorem getLsbD_statusWord_four_add (s : State) {i : Nat} (hi : i < 28) :
    (statusWord s).getLsbD (4 + i) = s.err.getLsbD i := by
  have h32 : 4 + i < 32 := by omega
  simp only [statusWord, BitVec.getLsbD_setWidth, BitVec.getLsbD_append]
  simp [h32, show ¬ 4 + i < 1 by omega]

theorem statusWord_err (s : State) : (statusWord s).extractLsb' 4 4 = s.err := by
  apply BitVec.eq_of_getLsbD_eq
  intro i hi
  simp [hi, getLsbD_statusWord_four_add s (show i < 28 by omega)]

theorem statusWord_upper (s : State) : (statusWord s).extractLsb' 8 24 = 0 := by
  apply BitVec.eq_of_getLsbD_eq
  intro i hi
  have h := getLsbD_statusWord_four_add s (show 4 + i < 28 by omega)
  rw [BitVec.getLsbD_of_ge s.err _ (by omega), ← Nat.add_assoc] at h
  simp [h]

theorem lenWord_lower (s : State) : (lenWord s).extractLsb' 0 16 = BitVec.ofNat 16 s.klen :=
  BitVec.extractLsb'_append_eq_right

theorem lenWord_upper (s : State) : (lenWord s).extractLsb' 16 16 = BitVec.ofNat 16 s.tlen :=
  BitVec.extractLsb'_append_eq_left

/-! ### `OVR` -/

theorem exec_ovr {i : Instr} {s t : State} (h : exec i s = .next t) : t.ovr = s.ovr := by
  rcases exec_cases h with ⟨_, rfl⟩ | ⟨_, rfl⟩ | ⟨_, _, _, rfl⟩ | ⟨_, _, _, rfl⟩ | ⟨_, _, _, rfl⟩ | ⟨_, _, _, rfl⟩ |
    ⟨_, rfl⟩ | ⟨_, _, rfl⟩ | ⟨_, _, _, rfl⟩ | ⟨_, _, rfl⟩ | ⟨_, _, _, rfl⟩ | ⟨_, _, _, rfl⟩ | ⟨_, _, _, rfl⟩ <;>
  simp

theorem coreTurn_ovr {s t : State} (h : coreTurn s = .next t) : t.ovr = s.ovr := by
  rcases coreTurn_cases h with ⟨_, rfl⟩ | ⟨_, _, _, hexec⟩ | ⟨_, _, _, rfl⟩
  · rfl
  · exact exec_ovr hexec
  · rfl

/-- What a host write can do to `OVR`: nothing, set it by being dropped, or clear it at `STATUS` (R23). -/
theorem hostWrite_ovr_cases (off : Nat) (v : Word) (s : State) :
    (hostWrite off v s).ovr = s.ovr ∨
    (s.busy = true ∧ (∃ r ∈ idleWritable, off = r.offset) ∧ (hostWrite off v s).ovr = true) ∨
    (off = Reg.status.offset ∧ v[3] = true ∧ (hostWrite off v s).ovr = false) := by
  cases hoff : regAt off with
  | none => exact .inl (by simp [hostWrite, hoff])
  | some r =>
    obtain rfl := offset_of_regAt hoff
    rcases writeReg_cases v s r with ⟨hr, stored, hw, hstored⟩ | ⟨rfl, _⟩ | ⟨_, _, hw⟩
    · cases hb : s.busy with
      | false => exact .inl (by rw [hostWrite_offset, hw, whenIdle_idle hb, hstored])
      | true => exact .inr (.inl ⟨rfl, ⟨r, hr, rfl⟩, by rw [hostWrite_idleWritable_of_busy hr v hb, dropWrite_ovr]⟩)
    · cases hv : v[3] with
      | false => exact .inl (by simp [hostWrite_status, hv])
      | true => exact .inr (.inr ⟨rfl, rfl, by simp [hostWrite_status, hv]⟩)
    · exact .inl (by rw [hostWrite_offset, hw])

theorem eq_hostWrite_of_writeNext {s t : State} {off : Nat} {v : Word} (h : step s = .next t)
    (hw : WriteNext s off v) : ∃ rest, t = hostWrite off v (s.withScript rest) := by
  obtain ⟨rest, hs⟩ := hw
  rw [step_of_script_cons hs, envTurn] at h
  split at h
  · exact ⟨rest, (Host.Outcome.next.inj h).symm⟩
  · cases h

theorem eq_resetBlock_of_resetNext {s t : State} (h : step s = .next t) (hr : ResetNext s) :
    ∃ rest, t = resetBlock (s.withScript rest) := by
  obtain ⟨rest, hs⟩ := hr
  rw [step_of_script_cons hs] at h
  exact ⟨rest, (Host.Outcome.next.inj h).symm⟩

/-- What a step can do to `OVR`: nothing, set it by a dropped write, clear it by Reset or by a write to `STATUS` (R23). -/
theorem step_ovr_cases {s t : State} (h : step s = .next t) :
    t.ovr = s.ovr ∨
    (s.busy = true ∧ (∃ r v, r ∈ idleWritable ∧ WriteNext s r.offset v) ∧ t.ovr = true) ∨
    ((ResetNext s ∨ ∃ v, WriteNext s Reg.status.offset v ∧ v[3] = true) ∧ t.ovr = false) := by
  rcases step_cases h with ⟨_, hcore⟩ | ⟨e, rest, hs, henv⟩
  · exact .inl (coreTurn_ovr hcore)
  · rcases envTurn_cases henv with ⟨off, v, rfl, _, rfl⟩ | ⟨_, rfl, _, rfl⟩ | ⟨rfl, rfl⟩ | ⟨_, rfl, rfl⟩ | ⟨rfl, hcore⟩ |
      ⟨rfl, rfl⟩
    · rcases hostWrite_ovr_cases off v (s.withScript rest) with hsame | ⟨hb, ⟨r, hr, rfl⟩, hset⟩ | ⟨rfl, hv, hclear⟩
      · exact .inl hsame
      · exact .inr (.inl ⟨hb, ⟨r, v, hr, rest, hs⟩, hset⟩)
      · exact .inr (.inr ⟨.inr ⟨v, ⟨rest, hs⟩, hv⟩, hclear⟩)
    · exact .inl rfl
    · exact .inr (.inr ⟨.inl ⟨rest, hs⟩, rfl⟩)
    · exact .inl rfl
    · exact .inl (coreTurn_ovr hcore :)
    · exact .inl (by rw [pollStatus_frame]; rfl)

/-! ### The obligations -/

/-- Settles O23: the invariant bounds both lengths by `TMAX`, which fits in 16 bits. -/
theorem lenShowsBothLengths : Obligations.LenShowsBothLengths := by
  refine ⟨fun s hs => ?_, fun p => ⟨p.kmax_le_tmax, p.tmax_le⟩, fun s v => hostWrite_offset .len v s, fun s hv hs => ?_⟩
  · have hread : hostRead s Reg.len.offset = lenWord s := hostRead_offset s .len
    have hk := hs.secretFits
    have ht := hs.textFits
    have hkt := s.params.kmax_le_tmax
    have htmax := s.params.tmax_le
    rw [hread, lenWord_lower, lenWord_upper, BitVec.toNat_ofNat, BitVec.toNat_ofNat]
    constructor <;> apply Nat.mod_eq_of_lt <;> omega
  · obtain ⟨hsecret, _⟩ := hs.emptySlot hv
    simp [State.klen, hsecret]

/-- Settles O34: `step_ovr_cases` gives who can change `OVR`, and the two step equations that they do. -/
theorem ovrIsStickyAndWriteOneToClear : Obligations.OvrIsStickyAndWriteOneToClear := by
  intro s t h
  refine ⟨fun r v hr hw hb => ?_, fun h0 h1 => ?_, fun h1 h0 => ?_, fun v hw hv => ?_, fun hr => ?_⟩
  · obtain ⟨rest, rfl⟩ := eq_hostWrite_of_writeNext h hw
    rw [hostWrite_idleWritable_of_busy hr v (s := s.withScript rest) hb]
    rfl
  · rcases step_ovr_cases h with hsame | ⟨hb, hw, _⟩ | ⟨_, hclear⟩
    · simp [hsame, h0] at h1
    · exact ⟨hb, hw⟩
    · simp [hclear] at h1
  · rcases step_ovr_cases h with hsame | ⟨_, _, hset⟩ | ⟨hcause, _⟩
    · simp [hsame, h1] at h0
    · simp [hset] at h0
    · exact hcause
  · obtain ⟨rest, rfl⟩ := eq_hostWrite_of_writeNext h hw
    simp [hostWrite_status, hv]
  · obtain ⟨rest, rfl⟩ := eq_resetBlock_of_resetNext h hr
    rfl

/-- Settles O22: bit by bit, from the order of the fields in `statusWord`. -/
theorem statusLayout : Obligations.StatusLayout :=
  ⟨fun s => ⟨statusWord_busy s, statusWord_valid s, statusWord_tovf s, statusWord_ovr s, statusWord_err s,
    statusWord_upper s⟩, fun s => hostRead_offset s .status, fun s v => hostWrite_status v s, by decide⟩

/-- The secret store is empty after Reset, so every byte of it is zero (R34). -/
theorem secretStore_reset (i : Nat) : State.reset.secretStore i = 0 := rfl

/-- Every byte of the digest is zero after Reset (R34). -/
theorem digest_reset (i : Fin 20) : State.reset.digest[i] = 0 := by
  simp [State.reset]

/-- Settles O28: `State.reset` lists the values; the two reads are `STATUS` and `LEN` of it. -/
theorem resetValues : Obligations.ResetValues :=
  ⟨rfl, rfl, rfl, rfl, rfl, rfl, rfl, rfl, rfl, rfl, secretStore_reset, rfl, rfl, rfl, rfl, rfl, rfl, rfl, digest_reset,
    rfl, rfl, rfl, rfl, by decide, by decide⟩

end Sys2Proof.Machine

/-! PROOFS. The port (spec/20_memory.md): what a write stores, drops or ignores (R43, R44, R58), the halves of the 64-bit
registers (R48), and the words of the digest (R49). -/

namespace Sys2Proof.Machine

/-! ### The port where no register stands, or none that a write reaches -/

theorem hostWrite_eq_self {off : Nat} (h : ∀ r ∈ Reg.status :: idleWritable, off ≠ r.offset) (v : Word) (s : State) :
    hostWrite off v s = s := by
  cases hoff : regAt off with
  | none => simp [hostWrite, hoff]
  | some r =>
    obtain rfl := offset_of_regAt hoff
    rcases writeReg_cases v s r with ⟨hr, _⟩ | ⟨rfl, _⟩ | ⟨_, _, hw⟩
    · exact absurd rfl (h r (List.mem_cons_of_mem _ hr))
    · exact absurd rfl (h .status List.mem_cons_self)
    · rw [hostWrite_offset, hw]

theorem hostRead_unmapped {off : Nat} (h : ∀ r : Reg, off ≠ r.offset) (s : State) : hostRead s off = 0 := by
  cases hoff : regAt off with
  | none => simp [hostRead, hoff]
  | some r => exact absurd (offset_of_regAt hoff).symm (h r)

theorem Reg.offset_lt (r : Reg) : r.offset < 0x58 := by
  cases r <;> decide

/-! ### The halves of a 64-bit register -/

@[simp] theorem loHalf_append (hi lo : Word) : loHalf (hi ++ lo) = lo :=
  BitVec.extractLsb'_append_eq_right

@[simp] theorem hiHalf_append (hi lo : Word) : hiHalf (hi ++ lo) = hi :=
  BitVec.extractLsb'_append_eq_left

theorem toNat_loHalf_add_hiHalf (x : DWord) : (loHalf x).toNat + 2 ^ 32 * (hiHalf x).toNat = x.toNat := by
  have hx := x.isLt
  simp only [loHalf, hiHalf, BitVec.extractLsb'_toNat, Nat.shiftRight_eq_div_pow]
  omega

/-! ### Four bytes and their word -/

/-- `be32` puts its bytes side by side: bit `i` lies in one byte, and the other three shifted bytes are 0 there (R6). -/
theorem be32_eq_append (b0 b1 b2 b3 : Byte) : be32 b0 b1 b2 b3 = (b0 ++ b1 ++ b2 ++ b3 :) := by
  apply BitVec.eq_of_getLsbD_eq
  intro i hi
  simp only [be32, BitVec.getLsbD_append, BitVec.getLsbD_or, BitVec.getLsbD_shiftLeft, BitVec.getLsbD_setWidth]
  have hbyte : i < 8 ∨ (8 ≤ i ∧ i < 16) ∨ (16 ≤ i ∧ i < 24) ∨ 24 ≤ i := by omega
  rcases hbyte with h | h | h | h <;> grind

theorem bytes32_be32 (b0 b1 b2 b3 : Byte) : bytes32 (be32 b0 b1 b2 b3) = [b0, b1, b2, b3] := by
  have h0 : (b0 ++ b1 ++ b2 ++ b3 :).extractLsb' 24 8 = b0 := by
    rw [BitVec.extractLsb'_append_eq_of_le (by decide), BitVec.extractLsb'_append_eq_of_le (by decide)]
    exact BitVec.extractLsb'_append_eq_left
  have h1 : (b0 ++ b1 ++ b2 ++ b3 :).extractLsb' 16 8 = b1 := by
    rw [BitVec.extractLsb'_append_eq_of_le (by decide), BitVec.extractLsb'_append_eq_of_le (by decide)]
    exact BitVec.extractLsb'_append_eq_right
  have h2 : (b0 ++ b1 ++ b2 ++ b3 :).extractLsb' 8 8 = b2 := by
    rw [BitVec.extractLsb'_append_eq_of_le (by decide)]
    exact BitVec.extractLsb'_append_eq_right
  have h3 : (b0 ++ b1 ++ b2 ++ b3 :).extractLsb' 0 8 = b3 := BitVec.extractLsb'_append_eq_right
  simp only [bytes32, be32_eq_append, h0, h1, h2, h3]

/-- The word of the four bytes of `bytes32 w` is `w`: adjacent slices join, one at a time. -/
theorem be32_bytes (w : Word) :
    be32 (w.extractLsb' 24 8) (w.extractLsb' 16 8) (w.extractLsb' 8 8) (w.extractLsb' 0 8) = w := by
  rw [be32_eq_append, BitVec.extractLsb'_append_extractLsb'_eq_extractLsb' (by decide),
    BitVec.extractLsb'_append_extractLsb'_eq_extractLsb' (by decide),
    BitVec.extractLsb'_append_extractLsb'_eq_extractLsb' (by decide)]
  exact BitVec.extractLsb'_eq_self

/-! ### The words of the digest -/

theorem bytes32_digestWord (d : Digest) (n : Fin 5) :
    bytes32 (digestWord d n) = [d[4 * n.val], d[4 * n.val + 1], d[4 * n.val + 2], d[4 * n.val + 3]] :=
  bytes32_be32 ..

/-- The twenty bytes of a digest, in five groups of four. -/
theorem digest_toList (d : Digest) :
    d.toList =
      (List.finRange 5).flatMap fun n => [d[4 * n.val], d[4 * n.val + 1], d[4 * n.val + 2], d[4 * n.val + 3]] :=
  calc d.toList = List.ofFn (fun i : Fin 20 => d[i.val]) := by rw [← Vector.toList_ofFn, Vector.ofFn_getElem]
    _ = _ := rfl

theorem rdDigestValue_digestWords (d : Digest) :
    rdDigestValue [digestWord d 0, digestWord d 1, digestWord d 2, digestWord d 3, digestWord d 4] = d.toList := by
  simp only [rdDigestValue, List.flatMap_cons, bytes32_digestWord]
  exact (digest_toList d).symm

/-! ### The obligations -/

/-- Settles O24: each word's bytes are its four digest bytes (`bytes32_be32`), and the four bytes of a chaining word make
it again (`be32_bytes`). -/
theorem digestWordsSpellTheDigest : Obligations.DigestWordsSpellTheDigest := by
  refine ⟨fun d => ⟨?_, ?_, fun _ => rfl, rdDigestValue_digestWords d⟩, fun h =>
    ⟨be32_bytes h.a, be32_bytes h.b, be32_bytes h.c, be32_bytes h.d, be32_bytes h.e⟩⟩
  · have hbytes := bytes32_digestWord d 0
    simp only [bytes32, List.cons.injEq] at hbytes
    obtain ⟨hfirst, _⟩ := hbytes
    exact hfirst
  · have hbytes := bytes32_digestWord d 4
    simp only [bytes32, List.cons.injEq] at hbytes
    obtain ⟨_, _, _, hlast, _⟩ := hbytes
    exact hlast

/-- Settles O20: the registers a write reaches stand below `0x20` and all registers below `0x58`; of the value written to
`STATUS` only bit 3 counts (`hostWrite_status`). -/
theorem readOnlyAndUnmappedWritesIgnored : Obligations.ReadOnlyAndUnmappedWritesIgnored := by
  refine ⟨fun s v off hoff => ?_, fun s off hoff => ?_, fun s v v' hv => ?_⟩
  · have hbelow : ∀ r ∈ Reg.status :: idleWritable, r.offset < 0x20 := by decide
    exact hostWrite_eq_self (fun r hr => ((hbelow r hr).trans_le hoff).ne') v s
  · exact hostRead_unmapped (fun r => (r.offset_lt.trans_le hoff).ne') s
  · have hstatus (w : Word) : hostWrite 0x04 w s = { s with ovr := s.ovr && !w[3] } := hostWrite_status w s
    rw [hstatus v, hstatus v', hv]

/-- Settles O27. -/
theorem busyWritesAreDropped : Obligations.BusyWritesAreDropped :=
  fun _ _ v hbusy hr => hostWrite_idleWritable_of_busy hr v hbusy

/-- Settles O19: the seven offsets are those of `idleWritable`, whose writes are stored or dropped by the phase, and with
`STATUS` those of every register a write reaches. -/
theorem hostWriteStoresOrDrops : Obligations.HostWriteStoresOrDrops := by
  refine ⟨fun s v hidle => ?_, fun s v hbusy off hoff => ?_, fun s v => hostWrite_offset .status v s,
    fun s v off hoff => ?_⟩
  · have stores (r : Reg) {stored : State} (hr : writeReg v s r = whenIdle s stored) :
        hostWrite r.offset v s = stored := by
      rw [hostWrite_offset, hr, whenIdle_idle hidle]
    exact ⟨stores .cmd rfl, stores .cfgDigits rfl, stores .cfgPeriod rfl, stores .ctrLo rfl, stores .ctrHi rfl,
      stores .ofsLo rfl, stores .ofsHi rfl⟩
  · obtain ⟨r, hr, rfl⟩ : ∃ r ∈ idleWritable, r.offset = off := List.mem_map.1 hoff
    exact hostWrite_idleWritable_of_busy hr v hbusy
  · have hwritable : ∀ r ∈ Reg.status :: idleWritable,
        r.offset ∈ [0x00, 0x04, 0x08, 0x0C, 0x10, 0x14, 0x18, 0x1C] := by decide
    refine hostWrite_eq_self (fun r hr heq => ?_) v s
    rw [heq] at hoff
    exact hoff (hwritable r hr)

/-- Settles O21: the two reads are the two slices of the element, and a write puts a slice beside the other. -/
theorem halvesMakeTheRegister : Obligations.HalvesMakeTheRegister :=
  ⟨fun s => ⟨toNat_loHalf_add_hiHalf s.ctr, toNat_loHalf_add_hiHalf s.ofs, toNat_loHalf_add_hiHalf s.ctro,
      toNat_loHalf_add_hiHalf s.tsnap⟩,
    fun x v => ⟨loHalf_append _ v, hiHalf_append _ v, hiHalf_append v _, loHalf_append v _, halves_append x⟩⟩

end Sys2Proof.Machine

/-! PROOFS. Decoding and the opcode table (spec/30_encoding.md rules R60, R63, R66): `decode` and `encode` are inverse, and a
row of the table selects the words of the command that bears its name. -/

namespace Sys2Proof

/-! ### The fields of a word -/

theorem rsvField_and (w w' : Word) : rsvField (w &&& w') = rsvField w &&& rsvField w' :=
  BitVec.extractLsb'_and

theorem opField_and (w w' : Word) : opField (w &&& w') = opField w &&& opField w' :=
  BitVec.extractLsb'_and

theorem encode_putc_immField {w : Word} (hrsv : rsvField w = 0) (hop : opField w = 0x02) :
    encode (.putc (immField w)) = w := by
  rw [← commandWord_of_rsvField hrsv, hop, immField_commandWord, encode]

/-! ### `decode` and `encode` -/

theorem decode_encode (i : Instr) : decode (encode i) = .ok i := by
  cases i with
  | putc imm8 => simp [decode, encode]
  | nop | clrt | construct | zeroize | hotp | ctrgen | totp | totpo => rfl

theorem encode_of_decodeC0 {op : Byte} {i : Instr} (h : decodeC0 op = .ok i) : encode i = commandWord op 0 := by
  unfold decodeC0 at h
  split at h <;> cases h <;> rfl

/-- The fields `decode` has tested are those of the word `encode` builds, so no bit of the word is lost. -/
theorem encode_of_decode {w : Word} {i : Instr} (h : decode w = .ok i) : encode i = w := by
  unfold decode at h
  split_ifs at h with hrsv hop himm
  · cases h
    exact encode_putc_immField (not_not.1 hrsv) hop
  · calc encode i = commandWord (opField w) 0 := encode_of_decodeC0 h
      _ = commandWord (opField w) (immField w) := by rw [not_not.1 himm]
      _ = w := commandWord_of_rsvField (not_not.1 hrsv)

/-! ### The rows of the opcode table -/

/-- `PUTC`'s row is the only one whose mask leaves bits free; every other row has one word, its command's (R63). -/
theorem eq_putcRow_or_one_word : ∀ r ∈ opcodeTable, r = ⟨"PUTC", 0x00000002, 0xFFFF00FF⟩ ∨
    (r.mask = BitVec.allOnes 32 ∧
      ∃ i ∈ [Instr.nop, .clrt, .construct, .zeroize, .hotp, .ctrgen, .totp, .totpo],
        i.mnemonic = r.mnemonic ∧ encode i = r.pattern) := by
  decide

/-- The mask of `PUTC`'s row is ones on `rsv` and `op`, so the masked word fixes both fields. -/
theorem encode_putc_of_selects {w : Word} (h : w &&& 0xFFFF00FF = 0x00000002) :
    encode (.putc (immField w)) = w := by
  have hrsv : rsvField w = 0 :=
    calc rsvField w = rsvField w &&& rsvField 0xFFFF00FF := BitVec.and_allOnes.symm
      _ = rsvField (w &&& 0xFFFF00FF) := (rsvField_and w _).symm
      _ = 0 := congrArg rsvField h
  have hop : opField w = 0x02 :=
    calc opField w = opField w &&& opField 0xFFFF00FF := BitVec.and_allOnes.symm
      _ = opField (w &&& 0xFFFF00FF) := (opField_and w _).symm
      _ = 0x02 := congrArg opField h
  exact encode_putc_immField hrsv hop

theorem exists_encode_of_selects {w : Word} {r : OpcodeRow} (hr : r ∈ opcodeTable) (h : r.selects w = true) :
    ∃ i : Instr, i.mnemonic = r.mnemonic ∧ encode i = w := by
  have hmatch : w &&& r.mask = r.pattern := beq_iff_eq.1 h
  rcases eq_putcRow_or_one_word r hr with rfl | ⟨hmask, i, _, hname, hword⟩
  · exact ⟨.putc (immField w), rfl, encode_putc_of_selects hmatch⟩
  · rw [hmask, BitVec.and_allOnes] at hmatch
    exact ⟨i, hname, hword.trans hmatch.symm⟩

/-- On the bits two rows both look at, a word they both select gives both patterns. -/
theorem patterns_agree_of_selects {w : Word} {r r' : OpcodeRow} (h : r.selects w = true) (h' : r'.selects w = true) :
    r.mask &&& r'.mask &&& (r.pattern ^^^ r'.pattern) = 0 := by
  have hmatch : w &&& r.mask = r.pattern := beq_iff_eq.1 h
  have hmatch' : w &&& r'.mask = r'.pattern := beq_iff_eq.1 h'
  rw [← hmatch, ← hmatch']
  apply BitVec.eq_of_getLsbD_eq
  intro k _
  simp only [BitVec.getLsbD_and, BitVec.getLsbD_xor]
  cases w.getLsbD k <;> cases r.mask.getLsbD k <;> simp

theorem eq_of_selects {w : Word} {r r' : OpcodeRow} (hr : r ∈ opcodeTable) (hr' : r' ∈ opcodeTable)
    (h : r.selects w = true) (h' : r'.selects w = true) : r' = r := by
  have hdisjoint : opcodeTable.Pairwise fun r r' => r.selects w = true → r'.selects w = true → r' = r :=
    opcodeTable_disjoint.imp fun hne h h' => absurd (patterns_agree_of_selects h h') hne
  have hflip : opcodeTable.Pairwise (flip fun r r' => r.selects w = true → r'.selects w = true → r' = r) :=
    hdisjoint.imp fun heq h h' => (heq h' h).symm
  exact hdisjoint.forall_of_forall_of_flip (fun _ _ _ _ => rfl) hflip hr hr' h h'

theorem exists_row_selects_encode (i : Instr) :
    ∃ r ∈ opcodeTable, r.mnemonic = i.mnemonic ∧ r.selects (encode i) = true :=
  match i with
  | .nop => Laws.RowOfTable.nop
  | .clrt => Laws.RowOfTable.clrt
  | .putc imm8 => Laws.RowOfTable.putc imm8
  | .construct => Laws.RowOfTable.construct
  | .zeroize => Laws.RowOfTable.zeroize
  | .hotp => Laws.RowOfTable.hotp
  | .ctrgen => Laws.RowOfTable.ctrgen
  | .totp => Laws.RowOfTable.totp
  | .totpo => Laws.RowOfTable.totpo

/-! ### The obligation -/

/-- Settles O2: a word a row selects is the word of that row's command (`exists_encode_of_selects`), no two rows select one
word (`eq_of_selects`), and a word that decodes is its command's word, which the command's row selects. -/
theorem decodeFollowsOpcodeTable : Obligations.DecodeFollowsOpcodeTable := by
  refine ⟨fun w r hr hsel => ⟨?_, fun r' hr' hsel' => eq_of_selects hr hr' hsel hsel'⟩, fun w i hdec => ?_⟩
  · obtain ⟨i, hname, rfl⟩ := exists_encode_of_selects hr hsel
    refine ⟨i, decode_encode i, hname, ?_⟩
    rintro c rfl
    exact (immField_commandWord 0x02 c).symm
  · obtain rfl := encode_of_decode hdec
    exact exists_row_selects_encode i

end Sys2Proof

/-! PROOFS. The base32 alphabet and `DEC32` bit by bit (spec/40_secret_load.md rules R73, R74): when each step of the decoder
fails, which characters are pads, and which bit of which value a bit of the result is. -/

namespace Sys2Proof.Machine

/-! ### The alphabet -/

theorem base32Val_letter {c : Byte} (hA : 0x41 ≤ c.toNat) (hZ : c.toNat ≤ 0x5A) :
    base32Val c = some (BitVec.ofNat 5 (c.toNat - 0x41)) :=
  if_pos ⟨hA, hZ⟩

theorem base32Val_digit {c : Byte} (h2 : 0x32 ≤ c.toNat) (h7 : c.toNat ≤ 0x37) :
    base32Val c = some (BitVec.ofNat 5 (c.toNat - 0x32 + 26)) :=
  (if_neg (by omega)).trans (if_pos ⟨h2, h7⟩)

theorem base32Val_other {c : Byte} (hletter : ¬ (0x41 ≤ c.toNat ∧ c.toNat ≤ 0x5A))
    (hdigit : ¬ (0x32 ≤ c.toNat ∧ c.toNat ≤ 0x37)) : base32Val c = none :=
  (if_neg hletter).trans (if_neg hdigit)

theorem base32Val_base32Char : ∀ v : BitVec 5, base32Val (base32Char v) = some v := by
  decide

/-! ### The trailing pads -/

/-- The counted characters are the longest suffix of pads. -/
theorem drop_padCount (s : List Byte) : s.drop (s.length - padCount s) = s.rtakeWhile (· == padChar) := by
  have hcount : padCount s = (s.rtakeWhile (· == padChar)).length := List.length_reverse.symm
  rw [hcount, ← List.suffix_iff_eq_drop.1 (List.rtakeWhile_suffix _ s)]

theorem eq_padChar_of_mem_drop_padCount {s : List Byte} {c : Byte} (h : c ∈ s.drop (s.length - padCount s)) :
    c = padChar := by
  rw [drop_padCount] at h
  exact beq_iff_eq.1 (List.mem_rtakeWhile_imp (p := (· == padChar)) h)

theorem padCount_le_length (s : List Byte) : padCount s ≤ s.length :=
  (List.takeWhile_prefix _).length_le.trans List.length_reverse.le

/-- No longer suffix is all pads: read backwards, the count takes every pad of it. -/
theorem le_padCount {s : List Byte} {p : Nat} (hp : p ≤ s.length) (hpads : ∀ c ∈ s.drop (s.length - p), c = padChar) :
    p ≤ padCount s := by
  have hpads' : ∀ c ∈ (s.drop (s.length - p)).reverse, (c == padChar) = true := fun c hc =>
    beq_iff_eq.2 (hpads c (List.mem_reverse.1 hc))
  have hsplit : s.reverse = (s.drop (s.length - p)).reverse ++ (s.take (s.length - p)).reverse := by
    rw [← List.reverse_append, List.take_append_drop]
  rw [padCount, hsplit, List.takeWhile_append_of_pos hpads']
  simp only [List.length_append, List.length_reverse, List.length_drop]
  omega

/-! ### When `DEC32` fails, and what it answers otherwise -/

theorem legalPad_iff (p : Nat) : legalPad p = true ↔ p ∈ [0, 1, 3, 4, 6] := by
  simp [legalPad, or_assoc]

theorem base32Vals_eq_some_iff {cs : List Byte} {vs : List (BitVec 5)} :
    base32Vals cs = some vs ↔ cs.map base32Val = vs.map some := by
  induction cs generalizing vs with
  | nil => cases vs <;> simp [base32Vals]
  | cons c cs ih =>
    cases hc : base32Val c with
    | none => cases vs <;> simp [base32Vals, hc]
    | some v =>
      cases vs with
      | nil => cases hcs : base32Vals cs <;> simp [base32Vals, hc, hcs]
      | cons w ws => cases hcs : base32Vals cs <;> simp [base32Vals, hc, hcs, ← ih]

theorem base32Vals_eq_none_iff {cs : List Byte} : base32Vals cs = none ↔ ∃ c ∈ cs, base32Val c = none := by
  induction cs with
  | nil => simp [base32Vals]
  | cons c cs ih =>
    rw [List.exists_mem_cons_iff, ← ih]
    cases hc : base32Val c <;> cases hcs : base32Vals cs <;> simp [base32Vals, hc, hcs]

theorem dec32_eq_none_iff {s : List Byte} :
    dec32 s = none ↔ s.length % 8 ≠ 0 ∨ padCount s ∉ [0, 1, 3, 4, 6] ∨
      ∃ c ∈ s.take (s.length - padCount s), base32Val c = none := by
  rw [← legalPad_iff, ← base32Vals_eq_none_iff, dec32]
  split_ifs with hlen hpad
  · exact iff_of_true rfl (.inl hlen)
  · exact iff_of_true rfl (.inr (.inl (Bool.eq_false_iff.1 hpad)))
  · simp [hlen, hpad]

theorem dec32_eq_some_iff {s r : List Byte} :
    dec32 s = some r ↔ s.length % 8 = 0 ∧ padCount s ∈ [0, 1, 3, 4, 6] ∧
      ∃ vs, base32Vals (s.take (s.length - padCount s)) = some vs ∧ packVals vs = r := by
  rw [← legalPad_iff, dec32]
  split_ifs with hlen hpad
  · simp [hlen]
  · simp [hpad]
  · simp [not_not.1 hlen, hpad]

/-! ### The bits of the result -/

/-- One step of `byteOfBits`: a bit comes in at the right (R74 step 8). -/
def shiftIn (acc : Byte) (b : Bool) : Byte := (acc <<< 1) ||| (BitVec.ofBool b).setWidth 8

theorem byteOfBits_eq_foldl (bits : List Bool) : byteOfBits bits = (bits.take 8).foldl shiftIn 0 := rfl

theorem getLsbD_shiftIn_zero (acc : Byte) (b : Bool) : (shiftIn acc b).getLsbD 0 = b := by
  simp [shiftIn]

theorem getLsbD_shiftIn_succ (acc : Byte) (b : Bool) {k : Nat} (hk : k + 1 < 8) :
    (shiftIn acc b).getLsbD (k + 1) = acc.getLsbD k := by
  simp [shiftIn, hk, BitVec.getLsbD_eq_getElem (show k < 8 by omega)]

/-- Bits shifted in stand in reverse order: the last one is bit 0. -/
theorem getLsbD_foldl_shiftIn (bits : List Bool) {k : Nat} (hk : k < 8) :
    (bits.foldl shiftIn 0).getLsbD k = bits.reverse.getD k false := by
  induction bits using List.reverseRecOn generalizing k with
  | nil => simp
  | append_singleton bits b ih =>
    rw [List.foldl_append, List.reverse_append]
    cases k with
    | zero => exact getLsbD_shiftIn_zero _ b
    | succ k => exact (getLsbD_shiftIn_succ _ b hk).trans (ih (by omega))

theorem getLsbD_byteOfBits {bits : List Bool} (hlen : 8 ≤ bits.length) {i : Nat} (hi : i < 8) :
    (byteOfBits bits).getLsbD (7 - i) = bits.getD i false := by
  have htake : (bits.take 8).length = 8 := List.length_take_of_le hlen
  rw [byteOfBits_eq_foldl, getLsbD_foldl_shiftIn _ (by omega), List.getD_reverse _ (by omega), htake,
    show 8 - 1 - (7 - i) = i by omega]
  simp [List.getD_eq_getElem?_getD, hi]

theorem getD_bytesOfBits {k m : Nat} (hm : m < k) (bits : List Bool) :
    (bytesOfBits k bits).getD m 0 = byteOfBits (bits.drop (8 * m)) := by
  induction k generalizing m bits with
  | zero => omega
  | succ k ih =>
    cases m with
    | zero => rfl
    | succ m =>
      rw [bytesOfBits, List.getD_cons_succ, ih (by omega), List.drop_drop, Nat.mul_succ, Nat.add_comm]

theorem getD_bits5 (v : BitVec 5) {j : Nat} (hj : j < 5) : (bits5 v).getD j false = v.getLsbD (4 - j) := by
  match j, hj with
  | 0, _ | 1, _ | 2, _ | 3, _ | 4, _ => rfl

theorem length_flatMap_bits5 (vs : List (BitVec 5)) : (vs.flatMap bits5).length = 5 * vs.length := by
  simp [List.length_flatMap, Nat.mul_comm]

/-- The bit string has five bits of each value, in order (R74 step 6). -/
theorem getD_flatMap_bits5 (vs : List (BitVec 5)) (j : Nat) :
    (vs.flatMap bits5).getD j false = (vs.getD (j / 5) 0).getLsbD (4 - j % 5) := by
  induction vs generalizing j with
  | nil => simp
  | cons v vs ih =>
    rw [List.flatMap_cons]
    rcases Nat.lt_or_ge j 5 with hj | hj
    · rw [List.getD_append _ _ _ _ (by simpa using hj), getD_bits5 v hj, Nat.div_eq_of_lt hj, Nat.mod_eq_of_lt hj,
        List.getD_cons_zero]
    · obtain ⟨i, rfl⟩ := Nat.exists_eq_add_of_le' hj
      rw [List.getD_append_right _ _ _ _ (by simp), bits5_length, Nat.add_sub_cancel, ih, Nat.add_div_right _ (by decide),
        List.getD_cons_succ, Nat.add_mod_right]

/-- Bit `j` of the packed bytes is bit `j` of the bit string (R74 step 8). -/
theorem getLsbD_packVals {vs : List (BitVec 5)} {j : Nat} (hj : j < 8 * (packVals vs).length) :
    ((packVals vs).getD (j / 8) 0).getLsbD (7 - j % 8) = (vs.getD (j / 5) 0).getLsbD (4 - j % 5) := by
  rw [packVals_length] at hj
  have hdrop : 8 ≤ ((vs.flatMap bits5).drop (8 * (j / 8))).length := by
    rw [List.length_drop, length_flatMap_bits5]
    omega
  calc ((packVals vs).getD (j / 8) 0).getLsbD (7 - j % 8)
      = (byteOfBits ((vs.flatMap bits5).drop (8 * (j / 8)))).getLsbD (7 - j % 8) := by
        rw [packVals, getD_bytesOfBits (by omega)]
    _ = ((vs.flatMap bits5).drop (8 * (j / 8))).getD (j % 8) false := getLsbD_byteOfBits hdrop (Nat.mod_lt _ (by decide))
    _ = (vs.flatMap bits5).getD j false := by
        simp only [List.getD_eq_getElem?_getD, List.getElem?_drop, Nat.div_add_mod]
    _ = (vs.getD (j / 5) 0).getLsbD (4 - j % 5) := getD_flatMap_bits5 vs j

/-- The value at a place is the value of the character there. -/
theorem getD_of_base32Vals_take {s : List Byte} {n : Nat} {vs : List (BitVec 5)}
    (h : base32Vals (s.take n) = some vs) {i : Nat} (hi : i < vs.length) :
    vs.getD i 0 = (base32Val (s.getD i 0)).getD 0 := by
  have hlen := base32Vals_length h
  rw [List.length_take] at hlen
  have hval : ((s.take n).map base32Val)[i]? = (vs.map some)[i]? := by rw [base32Vals_eq_some_iff.1 h]
  have hn : i < n := by omega
  have hs : i < s.length := by omega
  simp only [List.getElem?_map, List.getElem?_take, hn, hs, hi, List.getElem?_eq_getElem, if_true, Option.map_some,
    Option.some.injEq] at hval
  rw [List.getD_eq_getElem _ _ hi, List.getD_eq_getElem _ _ hs, hval, Option.getD_some]

/-! ### The obligations -/

/-- Settles O44: the causes of failure are the decoder's three tests, the pads are the longest run from the right, and a bit
of the result is followed through the packed bytes (`getLsbD_packVals`) to its character's value. -/
theorem dec32DecodesBitByBit : Obligations.Dec32DecodesBitByBit := by
  refine ⟨fun s => dec32_eq_none_iff, fun s => ⟨fun c => eq_padChar_of_mem_drop_padCount, padCount_le_length s,
    fun p => le_padCount⟩, fun s r hdec => ?_⟩
  obtain ⟨hgroups, -, vs, hvals, rfl⟩ := dec32_eq_some_iff.1 hdec
  have hpad := padCount_le_length s
  have hcount : vs.length = s.length - padCount s := by
    rw [base32Vals_length hvals, List.length_take]
    omega
  have hlen : (packVals vs).length = 5 * (s.length - padCount s) / 8 := by rw [packVals_length, hcount]
  refine ⟨hlen, by omega, by omega, by omega, by omega, by omega, fun j hj => ?_⟩
  rw [getLsbD_packVals hj, getD_of_base32Vals_take hvals (by omega)]

/-- Settles O45. -/
theorem base32Alphabet : Obligations.Base32Alphabet := by
  refine ⟨fun c hA hZ => ⟨_, base32Val_letter hA hZ, ?_⟩, fun c h2 h7 => ⟨_, base32Val_digit h2 h7, ?_⟩,
    fun c => base32Val_other, base32Val_base32Char, by decide⟩
  · rw [BitVec.toNat_ofNat]
    omega
  · rw [BitVec.toNat_ofNat]
    omega

end Sys2Proof.Machine

/-! PROOFS. The secret-handling commands (spec/40_secret_load.md rules R70 to R72, R77 to R79): the whole next state of each,
and that a host write never reaches the secret. -/

namespace Sys2Proof.Machine

/-! ### The branches of `PUTC` and `CONSTRUCT` -/

theorem exec_putc_of_lt (c : Byte) {s : State} (h : s.tlen < s.params.tmax) :
    exec (.putc c) s = .next (finish .ok { s with txt := s.txt ++ [c] }) :=
  if_pos h

theorem exec_putc_of_not_lt (c : Byte) {s : State} (h : ¬ s.tlen < s.params.tmax) :
    exec (.putc c) s = .next (finish .txtovf { s with tovf := true }) :=
  if_neg h

theorem decodeText_of_tovf {s : State} (h : s.tovf = true) : decodeText s = .error .txtovf := by
  simp [decodeText, h]

theorem decodeText_of_dec32_some {s : State} {key : List Byte} (ht : s.tovf = false) (hd : dec32 s.txt = some key) :
    decodeText s = .ok key := by
  simp [decodeText, ht, hd]

theorem decodeText_of_dec32_none {s : State} (ht : s.tovf = false) (hd : dec32 s.txt = none) :
    decodeText s = .error .decode := by
  simp [decodeText, ht, hd]

theorem exec_construct_of_ok {s : State} {key : List Byte} (h : decodeText s = .ok key) :
    exec .construct s = .next (finish .ok (clearText (install key (destroy s)))) := by
  simp [exec, execConstruct, h, succeed]

theorem exec_construct_of_error {s : State} {e : ErrCode} (h : decodeText s = .error e) :
    exec .construct s = .next (finish e (clearText (destroy s))) := by
  simp [exec, execConstruct, h, fail]

/-! ### The host and the secret -/

@[simp] theorem hostWrite_secret (off : Nat) (v : Word) (s : State) : (hostWrite off v s).secret = s.secret := by
  rcases hostWrite_cases off v s with h | ⟨_, h⟩ | ⟨_, _, h⟩ | ⟨_, _, h⟩ | ⟨_, _, h⟩ | ⟨_, _, h⟩ | ⟨_, _, h⟩ | ⟨_, _, h⟩ |
    ⟨_, _, h⟩ | ⟨_, _, h⟩ <;>
  simp [h]

/-- Only Reset and the core remove a secret (R77, R79). -/
theorem envTurn_secret {e : Event} {s t : State} (hcore : e ≠ .core) (hreset : e ≠ .reset) (h : envTurn e s = .next t) :
    t.secret = s.secret := by
  rcases envTurn_cases h with ⟨off, v, -, -, rfl⟩ | ⟨off, -, -, rfl⟩ | ⟨he, -⟩ | ⟨v, -, rfl⟩ | ⟨he, -⟩ | ⟨-, rfl⟩
  · exact hostWrite_secret off v s
  · rfl
  · exact absurd he hreset
  · rfl
  · exact absurd he hcore
  · rw [pollStatus_frame]

/-! ### The obligations -/

/-- Settles O6. -/
theorem nopClearsErr : Obligations.NopClearsErr := by
  refine ⟨decode_encode .nop, fun _ => rfl, fun s hidle => ?_⟩
  rw [hostWrite_offset, writeReg, whenIdle_idle hidle, accept_tlatch]

/-- Settles O7. -/
theorem clrtEmptiesText : Obligations.ClrtEmptiesText :=
  ⟨decode_encode .clrt, fun _ => rfl⟩

/-- Settles O8. -/
theorem putcAppendsOrOverflows : Obligations.PutcAppendsOrOverflows :=
  ⟨fun c => decode_encode (.putc c), fun c _ => exec_putc_of_lt c, fun c _ => exec_putc_of_not_lt c⟩

/-- Settles O9: `decodeText` has three answers, and `CONSTRUCT` a next state for each. -/
theorem constructInstallsOrEmptiesSlot : Obligations.ConstructInstallsOrEmptiesSlot :=
  ⟨decode_encode .construct, fun _ _ ht hd => exec_construct_of_ok (decodeText_of_dec32_some ht hd),
    fun _ ht => exec_construct_of_error (decodeText_of_tovf ht),
    fun _ ht hd => exec_construct_of_error (decodeText_of_dec32_none ht hd)⟩

/-- Settles O10. -/
theorem zeroizeClearsSecrets : Obligations.ZeroizeClearsSecrets :=
  ⟨decode_encode .zeroize, fun _ => rfl, fun _ => rfl, fun _ _ => ⟨rfl, rfl⟩,
    fun _ hbusy => hostWrite_idleWritable_of_busy (by decide) 0x00000004 hbusy,
    fun _ _ _ _ hcore hreset => envTurn_secret hcore hreset⟩

end Sys2Proof.Machine

/-! PROOFS. SHA-1 padding, the message schedule and the HMAC block key (spec/41_hmac_sha1.md rules R92, R94, R98). -/

namespace Sys2Proof.Machine

/-! ### Padding -/

/-- `padZeros` computes in `Nat` with `63 * l` in place of `-l`, which is the same modulo 64. -/
theorem padZeros_cast (l : Nat) : (padZeros l : Int) = (55 - (l : Int)) % 64 := by
  unfold padZeros
  omega

theorem add_padZeros (l : Nat) : l + 1 + padZeros l + 8 = 64 * ((l + 8) / 64 + 1) := by
  unfold padZeros
  omega

theorem padZeros_le {l z : Nat} (h : (l + 1 + z + 8) % 64 = 0) : padZeros l ≤ z := by
  unfold padZeros
  omega

theorem pad_length (m : List Byte) : (pad m).length = m.length + 1 + padZeros m.length + 8 := by
  simp only [pad, List.length_append, List.length_singleton, List.length_replicate, bytes64_length]

/-! ### The words of a block -/

theorem blockWords_length : ∀ x : List Byte, (blockWords x).length = x.length / 4
  | [] | [_] | [_, _] | [_, _, _] => by simp [blockWords]
  | b0 :: b1 :: b2 :: b3 :: rest => by
    simp only [blockWords, List.length_cons, blockWords_length rest]
    omega

theorem getD_blockWords {x : List Byte} {t : Nat} (ht : 4 * t + 3 < x.length) :
    (blockWords x).getD t 0 =
      be32 (x.getD (4 * t) 0) (x.getD (4 * t + 1) 0) (x.getD (4 * t + 2) 0) (x.getD (4 * t + 3) 0) := by
  induction t generalizing x with
  | zero =>
    match x, ht with
    | b0 :: b1 :: b2 :: b3 :: rest, _ => rfl
  | succ t ih =>
    match x, ht with
    | b0 :: b1 :: b2 :: b3 :: rest, ht =>
      exact ih (x := rest) (by simp only [List.length_cons] at ht; omega)

/-! ### The schedule, newest word first -/

/-- The last word that is added is the next one of all before it. -/
theorem extendSchedule_succ (n : Nat) (ws : List Word) :
    extendSchedule (n + 1) ws = nextWord (extendSchedule n ws) :: extendSchedule n ws := by
  induction n generalizing ws with
  | zero => rfl
  | succ n ih => exact ih (nextWord ws :: ws)

theorem extendSchedule_length (n : Nat) (ws : List Word) : (extendSchedule n ws).length = ws.length + n := by
  induction n with
  | zero => rfl
  | succ n ih => rw [extendSchedule_succ, List.length_cons, ih, Nat.add_assoc]

/-- Words that are added later only push the earlier ones back. -/
theorem getD_extendSchedule_add (n k j : Nat) (ws : List Word) :
    (extendSchedule (k + n) ws).getD (k + j) 0 = (extendSchedule n ws).getD j 0 := by
  induction k with
  | zero => simp only [Nat.zero_add]
  | succ k ih => rw [Nat.succ_add, Nat.succ_add, extendSchedule_succ, List.getD_cons_succ, ih]

theorem schedule_length {x : List Byte} (hx : x.length = 64) : (schedule x).length = 80 := by
  rw [schedule, List.length_reverse, extendSchedule_length, List.length_reverse, blockWords_length, hx]

/-- `W[t]` stands in the extension by `n` words, which holds `W[0..n+15]`, at the distance `j` from its newest word. -/
theorem getD_schedule {x : List Byte} (hx : x.length = 64) {t n j : Nat} (hn : n ≤ 64) (htj : t + j = n + 15) :
    (schedule x).getD t 0 = (extendSchedule n (blockWords x).reverse).getD j 0 := by
  have hlen : (extendSchedule 64 (blockWords x).reverse).length = 80 := by
    rw [extendSchedule_length, List.length_reverse, blockWords_length, hx]
  calc (schedule x).getD t 0
      = (extendSchedule 64 (blockWords x).reverse).getD (80 - 1 - t) 0 := by
        rw [schedule, List.getD_reverse t (by omega), hlen]
    _ = (extendSchedule (64 - n + n) (blockWords x).reverse).getD (64 - n + j) 0 := by
        rw [Nat.sub_add_cancel hn, show 80 - 1 - t = 64 - n + j by omega]
    _ = _ := getD_extendSchedule_add ..

theorem getD_schedule_of_lt {x : List Byte} (hx : x.length = 64) {t : Nat} (ht : t < 16) :
    (schedule x).getD t 0 = (blockWords x).getD t 0 := by
  have hlen : (blockWords x).length = 16 := by rw [blockWords_length, hx]
  rw [getD_schedule hx (n := 0) (j := 15 - t) (by omega) (by omega), extendSchedule,
    List.getD_reverse _ (by omega), hlen, show 16 - 1 - (15 - t) = t by omega]

theorem getD_schedule_of_le {x : List Byte} (hx : x.length = 64) {t : Nat} (h16 : 16 ≤ t) (h80 : t < 80) :
    (schedule x).getD t 0 = nextWord (extendSchedule (t - 16) (blockWords x).reverse) := by
  rw [getD_schedule hx (n := t - 16 + 1) (j := 0) (by omega) (by omega), extendSchedule_succ, List.getD_cons_zero]

/-! ### The block key -/

theorem blockKey_of_le {k : List Byte} (h : k.length ≤ 64) : blockKey k = k ++ List.replicate (64 - k.length) 0 :=
  if_pos h

theorem blockKey_of_lt {k : List Byte} (h : 64 < k.length) : blockKey k = (sha1 k).toList ++ List.replicate 44 0 :=
  if_neg (Nat.not_le.2 h)

theorem blockKey_length (k : List Byte) : (blockKey k).length = 64 := by
  rcases Nat.lt_or_ge 64 k.length with h | h
  · rw [blockKey_of_lt h, List.length_append, Vector.length_toList, List.length_replicate]
  · rw [blockKey_of_le h, List.length_append, List.length_replicate, Nat.add_sub_cancel' h]

theorem take_and_drop_zeroExtended {bs : List Byte} {n : Nat} (hn : bs.length = n) (z : Nat) :
    (bs ++ List.replicate z 0).take n = bs ∧ ∀ b ∈ (bs ++ List.replicate z 0).drop n, b = 0 := by
  rw [List.take_left' hn, List.drop_left' hn]
  exact ⟨rfl, fun _ => List.eq_of_mem_replicate⟩

/-! ### The obligations -/

/-- Settles O48: `padZeros` is the number of zeros, and with it the length is a multiple of 64. -/
theorem padFillsWholeBlocks : Obligations.PadFillsWholeBlocks := fun m =>
  ⟨padZeros m.length, padZeros_cast _, rfl, (pad_length m).trans (add_padZeros _), fun _ => padZeros_le⟩

/-- Settles O49: the newest word of an extension of the schedule is `nextWord` of the extension before it, and the four words
that it reads there are those of the whole schedule (`getD_schedule`). -/
theorem scheduleFollowsRecurrence : Obligations.ScheduleFollowsRecurrence := by
  intro x hx
  refine ⟨schedule_length hx, fun t ht => ?_, fun t h16 h80 => ?_⟩
  · rw [getD_schedule_of_lt hx ht, getD_blockWords (by omega)]
  · have hword (i : Nat) (hi : i < 16) : (schedule x).getD (t - (i + 1)) 0 =
        (extendSchedule (t - 16) (blockWords x).reverse).getD i 0 :=
      getD_schedule hx (by omega) (by omega)
    rw [getD_schedule_of_le hx h16 h80, nextWord, ← hword 2 (by decide),
      ← hword 7 (by decide), ← hword 13 (by decide), ← hword 15 (by decide)]

/-- Settles O50: the block key is zero-extended to 64 bytes from the key or from its 20-byte digest. -/
theorem blockKeyIsOneBlock : Obligations.BlockKeyIsOneBlock := by
  refine fun k => ⟨blockKey_length k, fun h => ?_, fun h => ?_⟩
  · rw [blockKey_of_le h]
    exact take_and_drop_zeroExtended rfl _
  · rw [blockKey_of_lt h]
    exact take_and_drop_zeroExtended Vector.length_toList _

end Sys2Proof.Machine

/-! PROOFS. Dynamic truncation, decimal reduction and the whole next states of `HOTP` (spec/42_truncation_code.md rules R111,
R112, R114). -/

namespace Sys2Proof.Machine

/-! ### Slices -/

/-- A slice that lies inside a slice. -/
theorem extractLsb'_extractLsb'_of_add_le {w p len' start len : Nat} (h : start + len ≤ len') (x : BitVec w) :
    (x.extractLsb' p len').extractLsb' start len = x.extractLsb' (p + start) len := by
  apply BitVec.eq_of_getLsbD_eq
  intro i hi
  have hin : start + i < len' := by omega
  simp only [BitVec.getLsbD_extractLsb', hin, decide_true, Bool.true_and, Nat.add_assoc]

/-- Four adjacent bytes of a value, most significant first, make its 32-bit slice (R6). -/
theorem be32_extractLsb' {w : Nat} (x : BitVec w) (p : Nat) :
    be32 (x.extractLsb' (p + 24) 8) (x.extractLsb' (p + 16) 8) (x.extractLsb' (p + 8) 8) (x.extractLsb' p 8) =
      x.extractLsb' p 32 := by
  have hbytes := be32_bytes (x.extractLsb' p 32)
  simpa only [extractLsb'_extractLsb'_of_add_le, Nat.reduceAdd, Nat.reduceLeDiff, Nat.add_zero] using hbytes

/-- Masking the top bit of the first byte masks the top bit of the word. -/
theorem be32_and_mask (b0 b1 b2 b3 : Byte) : be32 (b0 &&& 0x7F) b1 b2 b3 = be32 b0 b1 b2 b3 &&& 0x7FFFFFFF#32 := by
  have hmask : 0x7FFFFFFF#32 = ((0x7F : Byte) ++ 0xFF#8 ++ 0xFF#8 ++ 0xFF#8 :) := by decide
  have hones (b : Byte) : b &&& 0xFF#8 = b := BitVec.and_allOnes
  rw [be32_eq_append, be32_eq_append, hmask, BitVec.and_append, BitVec.and_append, BitVec.and_append, hones, hones, hones]

/-! ### The digest as one 160-bit value -/

/-- `{DIGEST0, DIGEST1, DIGEST2, DIGEST3, DIGEST4}`, the value whose bits R111 counts. -/
def digestValue (d : Digest) : BitVec (32 + 32 + 32 + 32 + 32) :=
  digestWord d 0 ++ digestWord d 1 ++ digestWord d 2 ++ digestWord d 3 ++ digestWord d 4

theorem extractLsb'_digestValue_word (d : Digest) (n : Fin 5) :
    (digestValue d).extractLsb' (128 - 32 * n.val) 32 = digestWord d n := by
  rw [digestValue]
  match n with
  | 0 =>
    iterate 4 rw [BitVec.extractLsb'_append_eq_of_le (by decide)]
    exact BitVec.extractLsb'_eq_self
  | 1 | 2 | 3 | 4 =>
    repeat rw [BitVec.extractLsb'_append_eq_of_le (by decide)]
    exact BitVec.extractLsb'_append_eq_right

/-- Byte `k` of word `n`, most significant first, is byte `4n + k` of the digest (R49). -/
theorem extractLsb'_digestWord (d : Digest) (n : Fin 5) (k : Fin 4) :
    (digestWord d n).extractLsb' (24 - 8 * k.val) 8 = d[4 * n.val + k.val] := by
  have hbytes := bytes32_digestWord d n
  simp only [bytes32, List.cons.injEq] at hbytes
  obtain ⟨h0, h1, h2, h3, _⟩ := hbytes
  match k with
  | 0 => exact h0
  | 1 => exact h1
  | 2 => exact h2
  | 3 => exact h3

/-- Byte `i` of the digest is byte `i` of the 160-bit value, most significant first. -/
theorem extractLsb'_digestValue (d : Digest) {i : Nat} (hi : i < 20) :
    (digestValue d).extractLsb' (152 - 8 * i) 8 = d[i] := by
  have hbyte := extractLsb'_digestWord d ⟨i / 4, by omega⟩ ⟨i % 4, by omega⟩
  rw [← extractLsb'_digestValue_word, extractLsb'_extractLsb'_of_add_le (by omega)] at hbyte
  have hpos : 128 - 32 * (i / 4) + (24 - 8 * (i % 4)) = 152 - 8 * i := by omega
  simpa only [hpos, Nat.div_add_mod] using hbyte

/-! ### The window -/

/-- The low nibble of the last digest byte is that of the last digest word (R111). -/
theorem windowOffset_val (d : Digest) : (windowOffset d).val = ((digestWord d 4).extractLsb' 0 4).toNat := by
  have hbyte : (digestWord d 4).extractLsb' 0 8 = d[19] := extractLsb'_digestWord d 4 3
  rw [← BitVec.extractLsb'_extractLsb'_of_le (len' := 8) (by decide), hbyte]
  simp only [windowOffset, BitVec.toNat_and, BitVec.extractLsb'_toNat, Nat.shiftRight_zero]
  exact Nat.and_two_pow_sub_one_eq_mod _ 4

/-- Four bytes in a row from byte `o` on are a 32-bit slice of the 160-bit value. -/
theorem be32_digest (d : Digest) {o : Nat} (ho : o < 16) :
    be32 d[o] d[o + 1] d[o + 2] d[o + 3] = (digestValue d).extractLsb' (128 - 8 * o) 32 := by
  rw [← be32_extractLsb', show 128 - 8 * o + 24 = 152 - 8 * o by omega,
    show 128 - 8 * o + 16 = 152 - 8 * (o + 1) by omega, show 128 - 8 * o + 8 = 152 - 8 * (o + 2) by omega,
    show 128 - 8 * o = 152 - 8 * (o + 3) by omega]
  simp only [extractLsb'_digestValue d (show o < 20 by omega), extractLsb'_digestValue d (show o + 1 < 20 by omega),
    extractLsb'_digestValue d (show o + 2 < 20 by omega), extractLsb'_digestValue d (show o + 3 < 20 by omega)]

/-- The truncation is the masked slice that begins `windowOffset d` bytes from the top (R111). -/
theorem dynTrunc_eq (d : Digest) :
    dynTrunc d = (digestValue d).extractLsb' (128 - 8 * (windowOffset d).val) 32 &&& 0x7FFFFFFF#32 := by
  rw [dynTrunc, be32_and_mask, be32_digest d (windowOffset d).isLt]

/-! ### The reduction -/

/-- From ten digits on the remainder is the value itself, because `2^31 < 10^10`; so the reduction is the remainder for every
digit count (R112). -/
theorem reduce_toNat {p : Word} (hp : p.toNat < 2 ^ 31) (digits : Word) :
    (reduce p digits).toNat = p.toNat % 10 ^ digits.toNat := by
  rcases Nat.lt_or_ge digits.toNat 10 with h | h
  · exact reduce_toNat_of_lt h
  · have hpow : 10 ^ 10 ≤ 10 ^ digits.toNat := Nat.pow_le_pow_right (by decide) h
    rw [reduce_of_le h, Nat.mod_eq_of_lt (by omega)]

/-! ### The branches of `HOTP` -/

theorem exec_hotp_of_not_valid {s : State} (h : s.valid = false) : exec .hotp s = .next (finish .noeng s) :=
  if_pos h

theorem exec_hotp_of_valid {s : State} (h : s.valid = true) : exec .hotp s = .next (finish .ok (putCode s.ctr s)) :=
  if_neg (by simp [h])

/-! ### The obligations -/

/-- Settles O52: the window's four bytes are adjacent in the 160-bit value (`dynTrunc_eq`). -/
theorem dynTruncSelectsTheWindow : Obligations.DynTruncSelectsTheWindow := by
  rintro d o rfl
  rw [← windowOffset_val]
  refine ⟨Nat.le_of_lt_succ (windowOffset d).isLt, dynTrunc_eq d, ?_⟩
  rw [dynTrunc_eq, BitVec.getElem_and]
  exact Bool.and_false _

/-- Settles O53: every clause but the last follows from the reduction being the remainder (`reduce_toNat`). -/
theorem reduceIsExactModulo : Obligations.ReduceIsExactModulo := by
  intro p digits hp
  have hmod := reduce_toNat hp digits
  refine ⟨hmod, hmod ▸ Nat.mod_le .., hmod ▸ Nat.mod_lt _ (Nat.pow_pos (by decide)), ?_, reduce_of_le⟩
  rintro rfl
  exact BitVec.eq_of_toNat_eq (hmod.trans (Nat.mod_one _))

/-- Settles O11. -/
theorem hotpComputesCode : Obligations.HotpComputesCode :=
  ⟨decode_encode .hotp, fun _ => exec_hotp_of_not_valid, fun _ => exec_hotp_of_valid⟩

end Sys2Proof.Machine

/-! PROOFS. The counter derived from the time and the commands that use it (spec/43_time_counter.md rules R120, R122 to
R124): the floor quotient with its remainder, and the whole next state of `CTRGEN`, `TOTP` and `TOTPO`. -/

namespace Sys2Proof.Machine

/-! ### The floor quotient -/

/-- The period is not negative, so floor division is Euclidean division (R120). -/
theorem derive_eq_ediv (t ofs : DWord) (period : Word) :
    derive t period ofs = BitVec.ofInt 64 (t.toInt / period.toNat) + ofs := by
  rw [derive, Int.fdiv_eq_ediv_of_nonneg _ (Int.natCast_nonneg _)]

/-- Dividing by a positive period takes a 64-bit signed value no further from 0, so the quotient is one as well. -/
theorem toInt_ediv_mem_range (t : DWord) {p : Nat} (hp : 0 < p) : -2 ^ 63 ≤ t.toInt / p ∧ t.toInt / p < 2 ^ 63 := by
  have hlow : -2 ^ 63 ≤ t.toInt := t.le_toInt
  have hhigh : t.toInt < 2 ^ 63 := t.toInt_lt
  exact ⟨Int.le_ediv_of_mul_le (by omega) (by omega), Int.ediv_lt_of_lt_mul (by omega) (by omega)⟩

/-- Below 0 truncation rounds up, floor division down: they differ by one where there is a remainder. -/
theorem ediv_eq_tdiv_sub_of_neg {a : Int} (ha : a < 0) {p : Nat} (hp : 0 < p) :
    a / p = Int.tdiv a p - (if a % p = 0 then 0 else 1) := by
  have hsign : (p : Int).sign = 1 := Int.sign_eq_one_of_pos (by omega)
  have hneg : ¬ 0 ≤ a := by omega
  simp [Int.tdiv_eq_ediv, hsign, hneg]

/-! ### The branches of the time commands -/

theorem hostWrite_cmd_tlatch (w : Word) {s : State} (hidle : s.busy = false) :
    (hostWrite Reg.cmd.offset w s).tlatch = now s := by
  rw [hostWrite_offset, writeReg, whenIdle_idle hidle, accept_tlatch]

theorem timeCommand_of_not_valid {s : State} (hv : s.valid = false) (u : State) :
    timeCommand s u = .next (finish .noeng s) :=
  if_pos hv

theorem timeCommand_of_period_zero {s : State} (hv : s.valid = true) (hp : s.engPeriod = 0) (u : State) :
    timeCommand s u = .next (finish .period0 s) :=
  (if_neg (by simp [hv])).trans (if_pos hp)

theorem timeCommand_of_valid {s : State} (hv : s.valid = true) (hp : s.engPeriod ≠ 0) (u : State) :
    timeCommand s u = .next (finish .ok u) :=
  (if_neg (by simp [hv])).trans (if_neg hp)

/-- With `OFS = 0` the offset of `TOTPO` is the one `TOTP` uses whatever `OFS` holds (R124). -/
theorem exec_totpo_of_ofs_zero {s : State} (h : s.ofs = 0) : exec .totpo s = exec .totp s := by
  rw [exec, exec, execTotpo, execTotp, h]

/-! ### The obligations -/

/-- Settles O54: the quotient and the remainder are the Euclidean ones. -/
theorem deriveIsFloorDivisionPlusOffset : Obligations.DeriveIsFloorDivisionPlusOffset := by
  intro t ofs period hperiod
  have hpos : 0 < period.toNat := Nat.pos_of_ne_zero (BitVec.toNat_ne.1 hperiod)
  obtain ⟨hlow, hhigh⟩ := toInt_ediv_mem_range t hpos
  refine ⟨t.toInt / period.toNat, t.toInt % period.toNat, (Int.ediv_mul_add_emod ..).symm,
    Int.emod_nonneg _ (by omega), Int.emod_lt_of_pos _ (by omega), hlow, hhigh,
    fun h => (Int.tdiv_eq_ediv_of_nonneg h).symm, fun h => ediv_eq_tdiv_sub_of_neg h hpos, ?_, derive_eq_ediv ..,
    (derive_eq_ediv ..).trans (BitVec.add_zero _)⟩
  rw [derive_eq_ediv, BitVec.ofInt_add, BitVec.ofInt_toInt]

/-- Settles O12. -/
theorem ctrgenDerivesCounter : Obligations.CtrgenDerivesCounter :=
  ⟨decode_encode .ctrgen, fun _ => hostWrite_cmd_tlatch _, fun _ hv => timeCommand_of_not_valid hv _,
    fun _ hv hp => timeCommand_of_period_zero hv hp _, fun _ hv hp => timeCommand_of_valid hv hp _⟩

/-- Settles O13. -/
theorem totpComputesCurrentCode : Obligations.TotpComputesCurrentCode := by
  refine ⟨decode_encode .totp, fun _ => hostWrite_cmd_tlatch _, fun _ hv => timeCommand_of_not_valid hv _,
    fun _ hv hp => timeCommand_of_period_zero hv hp _, ?_⟩
  rintro s _ hv hp rfl
  exact timeCommand_of_valid hv hp _

/-- Settles O14. -/
theorem totpoComputesOffsetCode : Obligations.TotpoComputesOffsetCode := by
  refine ⟨decode_encode .totpo, fun _ => hostWrite_cmd_tlatch _, fun _ hv => timeCommand_of_not_valid hv _,
    fun _ hv hp => timeCommand_of_period_zero hv hp _, ?_, fun _ => exec_totpo_of_ofs_zero⟩
  rintro s _ hv hp rfl
  exact timeCommand_of_valid hv hp _

end Sys2Proof.Machine

/-! PROOFS. What a command can do, said as its frame, its outcome and its failure (spec/10_state.md section 4,
spec/60_exceptions.md sections 1 and 2). -/

namespace Sys2Proof.Machine

/-! ### Every command completes -/

theorem timeCommand_total (s u : State) : ∃ t, timeCommand s u = .next t := by
  cases hv : s.valid with
  | false => exact ⟨_, timeCommand_of_not_valid hv u⟩
  | true =>
    by_cases hp : s.engPeriod = 0
    · exact ⟨_, timeCommand_of_period_zero hv hp u⟩
    · exact ⟨_, timeCommand_of_valid hv hp u⟩

theorem exec_total (i : Instr) (s : State) : ∃ t, exec i s = .next t := by
  cases i with
  | nop | clrt | zeroize => exact ⟨_, rfl⟩
  | putc c =>
    by_cases h : s.tlen < s.params.tmax
    · exact ⟨_, exec_putc_of_lt c h⟩
    · exact ⟨_, exec_putc_of_not_lt c h⟩
  | construct =>
    cases h : decodeText s with
    | ok key => exact ⟨_, exec_construct_of_ok h⟩
    | error e => exact ⟨_, exec_construct_of_error h⟩
  | hotp =>
    cases hv : s.valid with
    | false => exact ⟨_, exec_hotp_of_not_valid hv⟩
    | true => exact ⟨_, exec_hotp_of_valid hv⟩
  | ctrgen | totp | totpo => exact timeCommand_total s _

/-! ### What `CONSTRUCT` makes of the text -/

theorem decodeText_eq_ok {s : State} {key : List Byte} (h : decodeText s = .ok key) :
    s.tovf = false ∧ dec32 s.txt = some key := by
  rcases decodeText_cases s with ⟨_, h'⟩ | ⟨_, _, h'⟩ | ⟨k, ht, hd, h'⟩
  · simp [h'] at h
  · simp [h'] at h
  · cases h'.symm.trans h
    exact ⟨ht, hd⟩

theorem decodeText_eq_error {s : State} {e : ErrCode} (h : decodeText s = .error e) :
    (e = .txtovf ∧ s.tovf = true) ∨ (e = .decode ∧ s.tovf = false ∧ dec32 s.txt = none) := by
  rcases decodeText_cases s with ⟨ht, h'⟩ | ⟨ht, hd, h'⟩ | ⟨_, _, _, h'⟩
  · cases h'.symm.trans h
    exact .inl ⟨rfl, ht⟩
  · cases h'.symm.trans h
    exact .inr ⟨rfl, ht, hd⟩
  · simp [h'] at h

/-! ### Failing commands -/

/-- A command that fails is a `PUTC` on a full buffer, a `CONSTRUCT`, or a code command, and these are its changes before
the error entry (R139). -/
theorem exec_fail_cases {i : Instr} {s t : State} (h : exec i s = .next t) (herr : t.err ≠ 0) :
    (∃ c, i = .putc c ∧ t = finish .txtovf { s with tovf := true }) ∨
    (∃ e, i = .construct ∧ t = finish e (clearText (destroy s))) ∨
    (∃ e, i ∈ [Instr.hotp, .ctrgen, .totp, .totpo] ∧ t = finish e s) := by
  rcases exec_cases h with ⟨-, rfl⟩ | ⟨-, rfl⟩ | ⟨_, -, -, rfl⟩ | ⟨c, hi, -, rfl⟩ | ⟨_, -, -, rfl⟩ | ⟨e, hi, -, rfl⟩ |
    ⟨-, rfl⟩ | ⟨hi, -, rfl⟩ | ⟨hi, -, -, rfl⟩ | ⟨-, -, rfl⟩ | ⟨-, -, -, rfl⟩ | ⟨-, -, -, rfl⟩ | ⟨-, -, -, rfl⟩
  · exact absurd rfl herr
  · exact absurd rfl herr
  · exact absurd rfl herr
  · exact .inl ⟨c, hi, rfl⟩
  · exact absurd rfl herr
  · exact .inr (.inl ⟨e, hi, rfl⟩)
  · exact absurd rfl herr
  · exact .inr (.inr ⟨.noeng, by simpa using hi, rfl⟩)
  · exact .inr (.inr ⟨.period0, by simp [hi], rfl⟩)
  · exact absurd rfl herr
  · exact absurd rfl herr
  · exact absurd rfl herr
  · exact absurd rfl herr

/-! ### The obligations -/

/-- Settles O15: each of the ends of a command (`exec_cases`) updates only fields that the clauses about it leave out. -/
theorem commandFrame : Obligations.CommandFrame := by
  intro i s t h
  rcases exec_cases h with ⟨rfl, rfl⟩ | ⟨rfl, rfl⟩ | ⟨_, rfl, -, rfl⟩ | ⟨_, rfl, -, rfl⟩ | ⟨_, rfl, -, rfl⟩ |
    ⟨_, rfl, -, rfl⟩ | ⟨rfl, rfl⟩ | ⟨-, -, rfl⟩ | ⟨-, -, -, rfl⟩ | ⟨rfl, -, rfl⟩ | ⟨rfl, -, -, rfl⟩ | ⟨rfl, -, -, rfl⟩ |
    ⟨rfl, -, -, rfl⟩ <;>
  simp [SameOperands, SameHidden, SameSlot, SameText]

/-- Settles O16: a command completes (`exec_total`), and the cause of its code stands beside each of its ends. -/
theorem everyOutcomeHasItsCause : Obligations.EveryOutcomeHasItsCause := by
  intro i s
  obtain ⟨t, h⟩ := exec_total i s
  refine ⟨t, h, ?_⟩
  rcases exec_cases h with ⟨rfl, rfl⟩ | ⟨rfl, rfl⟩ | ⟨_, rfl, hlt, rfl⟩ | ⟨_, rfl, hle, rfl⟩ | ⟨_, rfl, hd, rfl⟩ |
    ⟨_, rfl, hd, rfl⟩ | ⟨rfl, rfl⟩ | ⟨hi, hv, rfl⟩ | ⟨hi, hv, hp, rfl⟩ | ⟨rfl, hv, rfl⟩ | ⟨rfl, hv, hp, rfl⟩ |
    ⟨rfl, hv, hp, rfl⟩ | ⟨rfl, hv, hp, rfl⟩
  · simp
  · simp
  · simp [hlt]
  · simp [Nat.not_lt.1 hle]
  · simp [decodeText_eq_ok hd]
  · rcases decodeText_eq_error hd with ⟨rfl, ht⟩ | ⟨rfl, ht, hn⟩
    · simp [ht]
    · simp [ht, hn]
  · simp
  · rcases hi with rfl | rfl | rfl | rfl <;> simp [hv]
  · rcases hi with rfl | rfl | rfl <;> simp [hv, hp]
  · simp [hv]
  · simpa [hv] using hp
  · simpa [hv] using hp
  · simpa [hv] using hp

/-- Settles O17: the three kinds of failing command (`exec_fail_cases`). -/
theorem failingCommandChangesNothingElse : Obligations.FailingCommandChangesNothingElse := by
  intro i s t h herr
  rcases exec_fail_cases h herr with ⟨c, rfl, rfl⟩ | ⟨e, rfl, rfl⟩ | ⟨e, hi, rfl⟩
  · exact ⟨fun _ => ⟨⟨rfl, rfl, rfl, rfl, rfl⟩, ⟨rfl, rfl, rfl, rfl⟩⟩, fun _ hputc => absurd rfl (hputc c),
      fun _ _ => rfl, nofun⟩
  · exact ⟨absurd rfl, fun hne _ => absurd rfl hne, nofun, fun _ => rfl⟩
  · refine ⟨fun _ => ⟨⟨rfl, rfl, rfl, rfl, rfl⟩, ⟨rfl, rfl, rfl, rfl⟩⟩, fun _ _ => rfl, fun c hc => ?_, fun hc => ?_⟩
    · simp [hc] at hi
    · simp [hc] at hi

end Sys2Proof.Machine

/-! PROOFS. What a step can do, said once, and the rules of the whole machine that follow from it (spec/00_scope.md rule R8,
spec/10_state.md sections 2 to 5, spec/20_memory.md section 5). -/

namespace Sys2Proof.Machine

/-! ### What a host write reaches -/

/-- A host write reaches the phase, the hidden registers, the operands, `OVR` and the count of draws, and nothing else
(R43, R56). -/
theorem hostWrite_frame (off : Nat) (v : Word) (s : State) :
    hostWrite off v s = { s with
      busy := (hostWrite off v s).busy, pend := (hostWrite off v s).pend, tlatch := (hostWrite off v s).tlatch
      cfgDigits := (hostWrite off v s).cfgDigits, cfgPeriod := (hostWrite off v s).cfgPeriod
      ctr := (hostWrite off v s).ctr, ofs := (hostWrite off v s).ofs, ovr := (hostWrite off v s).ovr
      env := { s.env with draws := (hostWrite off v s).env.draws } } := by
  rcases hostWrite_cases off v s with h | ⟨-, h⟩ | ⟨-, -, h⟩ | ⟨-, -, h⟩ | ⟨-, -, h⟩ | ⟨-, -, h⟩ | ⟨-, -, h⟩ | ⟨-, -, h⟩ |
    ⟨-, -, h⟩ | ⟨-, -, h⟩ <;>
  rw [h] <;> rfl

@[simp] theorem hostWrite_params (off : Nat) (v : Word) (s : State) : (hostWrite off v s).params = s.params := by
  rw [hostWrite_frame]

@[simp] theorem hostWrite_err (off : Nat) (v : Word) (s : State) : (hostWrite off v s).err = s.err := by
  rw [hostWrite_frame]

@[simp] theorem hostWrite_script (off : Nat) (v : Word) (s : State) :
    (hostWrite off v s).env.script = s.env.script := by
  rw [hostWrite_frame]

theorem hostWrite_slot (off : Nat) (v : Word) (s : State) : SameSlot s (hostWrite off v s) := by
  rw [hostWrite_frame]
  exact ⟨rfl, rfl, rfl, rfl⟩

/-- Only Accept changes the phase (R11). -/
theorem hostWrite_busy_cases (off : Nat) (v : Word) (s : State) :
    (hostWrite off v s).busy = s.busy ∨
    (off = Reg.cmd.offset ∧ s.busy = false ∧ hostWrite off v s = accept v s) := by
  rcases hostWrite_cases off v s with h | ⟨-, h⟩ | ⟨-, -, h⟩ | haccept | ⟨-, -, h⟩ | ⟨-, -, h⟩ | ⟨-, -, h⟩ | ⟨-, -, h⟩ |
    ⟨-, -, h⟩ | ⟨-, -, h⟩
  case inr.inr.inr.inl => exact .inr haccept
  all_goals exact .inl (by simp [h])

/-- A write to `CMD` in `IDLE` is an Accept (R43, R56). -/
theorem hostWrite_cmd_of_idle (w : Word) {s : State} (hidle : s.busy = false) :
    hostWrite Reg.cmd.offset w s = accept w s := by
  rw [hostWrite_offset, writeReg, whenIdle_idle hidle]

/-- In `BUSY` a write can change `OVR` alone (R58, R59). -/
theorem hostWrite_of_busy (off : Nat) (v : Word) {s : State} (hb : s.busy = true) :
    hostWrite off v s = { s with ovr := (hostWrite off v s).ovr } := by
  cases hoff : regAt off with
  | none => simp [hostWrite, hoff]
  | some r =>
    obtain rfl := offset_of_regAt hoff
    rcases writeReg_cases v s r with ⟨hr, -⟩ | ⟨rfl, -⟩ | ⟨-, -, hw⟩
    · rw [hostWrite_idleWritable_of_busy hr v hb]
      rfl
    · rw [hostWrite_status]
    · rw [hostWrite_offset, hw]

/-- An operand changes only by a write to it in `IDLE` (R14 to R16). -/
theorem hostWrite_operands_cases (off : Nat) (v : Word) (s : State) :
    SameOperands s (hostWrite off v s) ∨
    (s.busy = false ∧ ∃ r ∈ [Reg.cfgDigits, .cfgPeriod, .ctrLo, .ctrHi, .ofsLo, .ofsHi], off = r.offset) := by
  rcases hostWrite_cases off v s with h | ⟨-, h⟩ | ⟨-, -, h⟩ | ⟨-, -, h⟩ | ⟨ho, hb, -⟩ | ⟨ho, hb, -⟩ | ⟨ho, hb, -⟩ |
    ⟨ho, hb, -⟩ | ⟨ho, hb, -⟩ | ⟨ho, hb, -⟩
  · rw [h]
    exact .inl ⟨rfl, rfl, rfl, rfl⟩
  · exact .inl (h ▸ ⟨rfl, rfl, rfl, rfl⟩)
  · exact .inl (h ▸ ⟨rfl, rfl, rfl, rfl⟩)
  · exact .inl (h ▸ ⟨rfl, rfl, rfl, rfl⟩)
  all_goals exact .inr ⟨hb, _, by decide, ho⟩

/-- A change of the state in a place that no host write looks at or reaches. -/
structure HostWriteCommutes (f : State → State) : Prop where
  busy : ∀ s, (f s).busy = s.busy
  accept : ∀ (w : Word) s, accept w (f s) = f (accept w s)
  cfgDigits : ∀ (v : Word) s, { f s with cfgDigits := v } = f { s with cfgDigits := v }
  cfgPeriod : ∀ (v : Word) s, { f s with cfgPeriod := v } = f { s with cfgPeriod := v }
  ctr : ∀ (g : DWord → DWord) s, { f s with ctr := g (f s).ctr } = f { s with ctr := g s.ctr }
  ofs : ∀ (g : DWord → DWord) s, { f s with ofs := g (f s).ofs } = f { s with ofs := g s.ofs }
  ovr : ∀ (b : Bool) s, { f s with ovr := b } = f { s with ovr := b }

section
variable {f : State → State}

theorem HostWriteCommutes.whenIdle (hf : HostWriteCommutes f) (s stored : State) :
    whenIdle (f s) (f stored) = f (whenIdle s stored) := by
  cases hb : s.busy with
  | false => rw [whenIdle_idle hb, whenIdle_idle ((hf.busy s).trans hb)]
  | true =>
    rw [whenIdle_busy hb, whenIdle_busy ((hf.busy s).trans hb)]
    exact hf.ovr true s

theorem HostWriteCommutes.writeStatus (hf : HostWriteCommutes f) (v : Word) (s : State) :
    writeStatus v (f s) = f (writeStatus v s) := by
  unfold Machine.writeStatus
  split
  · exact hf.ovr false s
  · rfl

theorem HostWriteCommutes.writeReg (hf : HostWriteCommutes f) (v : Word) (s : State) (r : Reg) :
    writeReg v (f s) r = f (writeReg v s r) := by
  cases r with
  | cmd => rw [Machine.writeReg, hf.accept, hf.whenIdle, Machine.writeReg]
  | cfgDigits => rw [Machine.writeReg, hf.cfgDigits, hf.whenIdle, Machine.writeReg]
  | cfgPeriod => rw [Machine.writeReg, hf.cfgPeriod, hf.whenIdle, Machine.writeReg]
  | ctrLo => rw [Machine.writeReg, hf.ctr (setLo · v), hf.whenIdle, Machine.writeReg]
  | ctrHi => rw [Machine.writeReg, hf.ctr (setHi · v), hf.whenIdle, Machine.writeReg]
  | ofsLo => rw [Machine.writeReg, hf.ofs (setLo · v), hf.whenIdle, Machine.writeReg]
  | ofsHi => rw [Machine.writeReg, hf.ofs (setHi · v), hf.whenIdle, Machine.writeReg]
  | status => exact hf.writeStatus v s
  | _ => rfl

theorem HostWriteCommutes.hostWrite (hf : HostWriteCommutes f) (off : Nat) (v : Word) (s : State) :
    hostWrite off v (f s) = f (hostWrite off v s) := by
  unfold Machine.hostWrite
  cases regAt off with
  | none => rfl
  | some r => exact hf.writeReg v s r

end

/-! ### Whose turn is next -/

section
variable {s : State}

theorem CoreNext.not_resetNext (h : CoreNext s) : ¬ ResetNext s := by
  rintro ⟨_, hr⟩
  rcases h with h | ⟨_, h⟩ <;> cases h.symm.trans hr

theorem CoreNext.not_writeNext (h : CoreNext s) {off : Nat} {v : Word} : ¬ WriteNext s off v := by
  rintro ⟨_, hw⟩
  rcases h with h | ⟨_, h⟩ <;> cases h.symm.trans hw

theorem WriteNext.not_resetNext {off : Nat} {v : Word} (h : WriteNext s off v) : ¬ ResetNext s := by
  rintro ⟨_, hr⟩
  obtain ⟨_, hw⟩ := h
  cases hw.symm.trans hr

theorem Completes.not_resetNext (h : Completes s) : ¬ ResetNext s :=
  h.1.not_resetNext

end

/-! ### What a step can do -/

/-- Everything a step can do: complete a command or an illegal word, reset, write, or pass, which changes the environment
alone. -/
inductive StepEnd (s t : State) : Prop
  | command (i : Instr) (rest : List Event) (hc : Completes s) (hd : decode s.pend = .ok i)
      (hexec : exec i (s.withScript rest) = .next t)
  | illegal (rest : List Event) (hc : Completes s) (hd : ∃ e, decode s.pend = .error e)
      (ht : t = finish .illcmd (s.withScript rest))
  | reset (rest : List Event) (hr : ResetNext s) (ht : t = resetBlock (s.withScript rest))
  | write (off : Nat) (v : Word) (rest : List Event) (hw : WriteNext s off v)
      (ht : t = hostWrite off v (s.withScript rest))
  | pass (hc : ¬ Completes s) (hr : ¬ ResetNext s) (ht : t = { s with env := t.env })

theorem stepEnd_of_coreTurn {s t : State} {rest : List Event} (hnext : CoreNext s)
    (h : coreTurn (s.withScript rest) = .next t) : StepEnd s t := by
  rcases coreTurn_cases h with ⟨hidle, rfl⟩ | ⟨i, hb, hd, hexec⟩ | ⟨e, hb, hd, rfl⟩
  · have hidle : s.busy = false := hidle
    exact .pass (fun ⟨_, hb⟩ => by simp [hb] at hidle) hnext.not_resetNext rfl
  · exact .command i rest ⟨hnext, hb⟩ hd hexec
  · exact .illegal rest ⟨hnext, hb⟩ ⟨e, hd⟩ rfl

theorem stepEnd_of_step {s t : State} (h : step s = .next t) : StepEnd s t := by
  rcases step_cases h with ⟨hs, hcore⟩ | ⟨e, rest, hs, henv⟩
  · rw [← withScript_self s] at hcore
    exact stepEnd_of_coreTurn (.inl hs) hcore
  · have not_completes (he : e ≠ .core) : ¬ Completes s := by
      rintro ⟨hnil | ⟨_, hcons⟩, _⟩
      · cases hnil.symm.trans hs
      · cases hcons.symm.trans hs
        exact he rfl
    have not_reset (he : e ≠ .reset) : ¬ ResetNext s := by
      rintro ⟨_, hcons⟩
      cases hcons.symm.trans hs
      exact he rfl
    rcases envTurn_cases henv with ⟨off, v, rfl, -, rfl⟩ | ⟨off, rfl, -, rfl⟩ | ⟨rfl, rfl⟩ | ⟨v, rfl, rfl⟩ | ⟨rfl, hcore⟩ |
      ⟨rfl, rfl⟩
    · exact .write off v rest ⟨rest, hs⟩ rfl
    · exact .pass (not_completes nofun) (not_reset nofun) rfl
    · exact .reset rest ⟨rest, hs⟩ rfl
    · exact .pass (not_completes nofun) (not_reset nofun) rfl
    · exact stepEnd_of_coreTurn (.inr ⟨rest, hs⟩) hcore
    · exact .pass (not_completes nofun) (not_reset nofun) (by rw [pollStatus_frame]; rfl)

/-! ### What every command leaves, from its frame -/

section
variable {i : Instr} {s t : State}

theorem exec_params (h : exec i s = .next t) : t.params = s.params := by
  obtain ⟨hparams, -⟩ := commandFrame i s t h
  exact hparams

theorem exec_env (h : exec i s = .next t) : t.env = s.env := by
  obtain ⟨-, henv, -⟩ := commandFrame i s t h
  exact henv

theorem exec_operands (h : exec i s = .next t) : SameOperands s t := by
  obtain ⟨-, -, -, hops, -⟩ := commandFrame i s t h
  exact hops

theorem exec_busy (h : exec i s = .next t) : t.busy = false := by
  obtain ⟨-, -, -, -, -, hbusy, -⟩ := commandFrame i s t h
  exact hbusy

theorem exec_slot (h : exec i s = .next t) (hi : i ∉ [Instr.construct, .zeroize]) : SameSlot s t := by
  obtain ⟨-, -, -, -, -, -, hslot, -⟩ := commandFrame i s t h
  exact hslot hi

theorem exec_err (h : exec i s = .next t) : ∃ o : ErrCode, t.err = o.code := by
  rcases exec_cases h with ⟨-, rfl⟩ | ⟨-, rfl⟩ | ⟨_, -, -, rfl⟩ | ⟨_, -, -, rfl⟩ | ⟨_, -, -, rfl⟩ | ⟨_, -, -, rfl⟩ |
    ⟨-, rfl⟩ | ⟨-, -, rfl⟩ | ⟨-, -, -, rfl⟩ | ⟨-, -, rfl⟩ | ⟨-, -, -, rfl⟩ | ⟨-, -, -, rfl⟩ | ⟨-, -, -, rfl⟩ <;>
  exact ⟨_, finish_err _ _⟩

end

/-! ### What a read looks at -/

/-- Only `STATUS` shows `OVR`, and no register shows the environment. -/
theorem hostRead_ovr_env {off : Nat} (hoff : off ≠ Reg.status.offset) (s : State) (b : Bool) (e : Env) :
    hostRead { s with ovr := b, env := e } off = hostRead s off := by
  unfold hostRead
  cases hr : regAt off with
  | none => rfl
  | some r =>
    cases r with
    | status => exact absurd (offset_of_regAt hr).symm hoff
    | _ => rfl

/-! ### The obligations -/

/-- Settles O30. -/
theorem phaseChangesOnlyByAcceptCompleteReset : Obligations.PhaseChangesOnlyByAcceptCompleteReset := by
  intro s t h
  cases stepEnd_of_step h with
  | command i rest hc hd hexec =>
    exact ⟨fun _ ht => by simp [exec_busy hexec] at ht, fun _ _ => .inl hc, fun _ => exec_busy hexec,
      fun _ => exec_busy hexec, fun _ hidle => by simp [hc.2] at hidle⟩
  | illegal rest hc hd ht =>
    subst ht
    exact ⟨fun _ ht => by simp at ht, fun _ _ => .inl hc, fun _ => rfl, fun _ => rfl,
      fun _ hidle => by simp [hc.2] at hidle⟩
  | reset rest hr ht =>
    subst ht
    exact ⟨fun _ ht => by simp at ht, fun _ _ => .inr hr, fun _ => rfl, fun _ => rfl,
      fun hn => absurd hr hn.not_resetNext⟩
  | write off v rest hw ht =>
    subst ht
    refine ⟨fun hidle hbusy => ?_, fun hbusy hidle => ?_, fun hc => absurd hw hc.1.not_writeNext,
      fun hr => absurd hr hw.not_resetNext, fun hn => absurd hw hn.not_writeNext⟩
    · rcases hostWrite_busy_cases off v (s.withScript rest) with hsame | ⟨rfl, -, haccept⟩
      · simp [hsame, hidle] at hbusy
      · exact ⟨v, hw, by rw [haccept, accept_pend]⟩
    · rcases hostWrite_busy_cases off v (s.withScript rest) with hsame | ⟨-, hidle', -⟩
      · simp [hsame, hbusy] at hidle
      · simp [hbusy] at hidle'
  | pass hc hr ht =>
    have hsame : t.busy = s.busy := by rw [ht]
    exact ⟨fun hidle hbusy => by simp [hsame, hidle] at hbusy, fun hbusy hidle => by simp [hsame, hbusy] at hidle,
      fun h => absurd h hc, fun h => absurd h hr, fun _ _ => ht⟩

/-- Settles O31. -/
theorem slotChangesOnlyByConstructZeroizeReset : Obligations.SlotChangesOnlyByConstructZeroizeReset := by
  intro s t h hslot
  cases stepEnd_of_step h with
  | command i rest hc hd hexec =>
    have hi : i ∈ [Instr.construct, .zeroize] := by
      by_contra hi
      exact hslot (exec_slot hexec hi :)
    simp only [List.mem_cons, List.not_mem_nil, or_false] at hi
    rcases hi with rfl | rfl
    · exact .inr ⟨hc, .inl hd⟩
    · exact .inr ⟨hc, .inr hd⟩
  | illegal rest hc hd ht => exact absurd (ht ▸ ⟨rfl, rfl, rfl, rfl⟩) hslot
  | reset rest hr ht => exact .inl hr
  | write off v rest hw ht => exact absurd (ht ▸ hostWrite_slot off v (s.withScript rest)) hslot
  | pass hc hr ht => exact absurd (ht ▸ ⟨rfl, rfl, rfl, rfl⟩) hslot

/-- Settles O32. -/
theorem operandsChangeOnlyByIdleWrites : Obligations.OperandsChangeOnlyByIdleWrites := by
  intro s t h hops
  cases stepEnd_of_step h with
  | command i rest hc hd hexec => exact absurd (exec_operands hexec) hops
  | illegal rest hc hd ht => exact absurd (ht ▸ ⟨rfl, rfl, rfl, rfl⟩) hops
  | reset rest hr ht => exact .inl hr
  | write off v rest hw ht =>
    rcases hostWrite_operands_cases off v (s.withScript rest) with hsame | ⟨hidle, r, hr, rfl⟩
    · exact absurd (ht ▸ hsame) hops
    · exact .inr ⟨hidle, r, v, hr, hw⟩
  | pass hc hr ht => exact absurd (ht ▸ ⟨rfl, rfl, rfl, rfl⟩) hops

theorem step_of_busy_frame {s t : State} (hb : s.busy = true) (hcore : ¬ CoreNext s) (hreset : ¬ ResetNext s)
    (h : step s = .next t) : t = { s with ovr := t.ovr, env := t.env } := by
  cases stepEnd_of_step h with
  | command i rest hc hd hexec => exact absurd hc.1 hcore
  | illegal rest hc hd ht => exact absurd hc.1 hcore
  | reset rest hr ht => exact absurd hr hreset
  | write off v rest hw ht =>
    subst ht
    rw [hostWrite_of_busy off v (s := s.withScript rest) hb]
    rfl
  | pass hc hr ht => rw [ht]

/-- Settles O33: such a step changes `OVR` and the environment alone, and only `STATUS` shows either. -/
theorem onlyOvrChangesWhileBusy : Obligations.OnlyOvrChangesWhileBusy := by
  intro s t hb hcore hreset h
  have hframe := step_of_busy_frame hb hcore hreset h
  refine ⟨hframe, fun off hoff => ?_⟩
  rw [hframe, hostRead_ovr_env hoff]

/-- Settles O35. -/
theorem errIsTheLastOutcome : Obligations.ErrIsTheLastOutcome := by
  refine ⟨fun s t h => ?_, fun o => by cases o <;> decide, fun s hb hs hd => ?_⟩
  · cases stepEnd_of_step h with
    | command i rest hc hd hexec =>
      exact ⟨fun _ => exec_err hexec, fun hr => absurd hr hc.not_resetNext, fun hn => absurd hc hn⟩
    | illegal rest hc hd ht =>
      exact ⟨fun _ => ⟨.illcmd, by rw [ht, finish_err]⟩, fun hr => absurd hr hc.not_resetNext, fun hn => absurd hc hn⟩
    | reset rest hr ht =>
      exact ⟨fun hc => absurd hr hc.not_resetNext, fun _ => by rw [ht, resetBlock_err], fun _ hn => absurd hr hn⟩
    | write off v rest hw ht =>
      exact ⟨fun hc => absurd hw hc.1.not_writeNext, fun hr => absurd hr hw.not_resetNext, fun _ _ => by simp [ht]⟩
    | pass hc hr ht => exact ⟨fun h => absurd h hc, fun h => absurd h hr, fun _ _ => by rw [ht]⟩
  · refine ⟨finish .ok s, ?_, rfl⟩
    rw [step_of_script_nil hs, coreTurn, if_pos hb, complete, hd]
    rfl

/-- Settles O36. -/
theorem noStepChangesTheParameters : Obligations.NoStepChangesTheParameters := by
  intro s t h
  cases stepEnd_of_step h with
  | command i rest hc hd hexec => exact (exec_params hexec :)
  | illegal rest hc hd ht => simp [ht]
  | reset rest hr ht => simp [ht]
  | write off v rest hw ht => simp [ht]
  | pass hc hr ht => rw [ht]

end Sys2Proof.Machine

/-! PROOFS. The invariants of the state (spec/10_state.md section 5): they hold after Reset, each change a step can make keeps
them, and they bound the result registers. -/

namespace Sys2Proof.Machine

/-! ### What keeps the invariants -/

/-- The invariants say nothing of the phase, the hidden registers, the operands, `OVR` and the environment. -/
theorem Inv.of_frame {s t : State} (h : Inv s)
    (ht : t = { s with
      busy := t.busy, pend := t.pend, tlatch := t.tlatch, cfgDigits := t.cfgDigits, cfgPeriod := t.cfgPeriod
      ctr := t.ctr, ofs := t.ofs, ovr := t.ovr, env := t.env }) : Inv t := by
  rw [ht]
  exact ⟨h.secretFits, h.textFits, h.emptySlot, h.truncated, h.reduced, h.errKnown, h.overflowFull⟩

theorem Inv.after_withScript {s : State} (h : Inv s) (es : List Event) : Inv (s.withScript es) :=
  h.of_frame rfl

theorem Inv.after_hostWrite {s : State} (h : Inv s) (off : Nat) (v : Word) : Inv (hostWrite off v s) :=
  h.of_frame (by rw [hostWrite_frame])

theorem ErrCode.code_le (o : ErrCode) : o.code.toNat ≤ 5 := by
  cases o <;> decide

theorem Inv.after_finish {s : State} (h : Inv s) (o : ErrCode) : Inv (finish o s) :=
  ⟨h.secretFits, h.textFits, h.emptySlot, h.truncated, h.reduced, o.code_le, h.overflowFull⟩

theorem Inv.after_clearText {s : State} (h : Inv s) : Inv (clearText s) :=
  ⟨h.secretFits, Nat.zero_le _, h.emptySlot, h.truncated, h.reduced, h.errKnown, nofun⟩

theorem slotEmpty_destroy (s : State) : SlotEmpty (destroy s) :=
  ⟨rfl, rfl, rfl, rfl, rfl, rfl, rfl, rfl⟩

/-- The cleared results belong together: the truncation and the reduction of zeros are zero (R77). -/
theorem Inv.after_destroy {s : State} (h : Inv s) : Inv (destroy s) :=
  ⟨Nat.zero_le _, h.textFits, fun _ => slotEmpty_destroy s, dynTrunc_zeros.symm, (reduce_zero 0).symm, h.errKnown,
    h.overflowFull⟩

theorem Inv.after_installDestroy {s : State} (h : Inv s) {key : List Byte} (hkey : key.length ≤ s.params.kmax) :
    Inv (install key (destroy s)) :=
  ⟨hkey, h.textFits, nofun, dynTrunc_zeros.symm, (reduce_zero _).symm, h.errKnown, h.overflowFull⟩

/-- The capacity of the store is what a full text buffer decodes to (R4, R74). -/
theorem Inv.length_of_dec32 {s : State} (h : Inv s) {key : List Byte} (hd : dec32 s.txt = some key) :
    key.length ≤ s.params.kmax := by
  have hkey := dec32_length_le hd
  have htext : s.txt.length ≤ s.params.tmax := h.textFits
  unfold Params.kmax
  omega

/-- On a buffer with room `TOVF` is clear, so a character more makes no false claim of overflow (R33 (f)). -/
theorem Inv.after_append {s : State} (h : Inv s) (hroom : s.tlen < s.params.tmax) (c : Byte) :
    Inv { s with txt := s.txt ++ [c] } := by
  refine ⟨h.secretFits, ?_, h.emptySlot, h.truncated, h.reduced, h.errKnown, fun ht => ?_⟩
  · simpa [State.tlen] using hroom
  · exact absurd (h.overflowFull ht) hroom.ne

theorem Inv.after_overflow {s : State} (h : Inv s) (hfull : ¬ s.tlen < s.params.tmax) : Inv { s with tovf := true } :=
  ⟨h.secretFits, h.textFits, h.emptySlot, h.truncated, h.reduced, h.errKnown,
    fun _ => Nat.le_antisymm h.textFits (Nat.not_lt.1 hfull)⟩

theorem Inv.after_putCode {s : State} (h : Inv s) (hv : s.valid = true) (c : DWord) : Inv (putCode c s) :=
  ⟨h.secretFits, h.textFits, fun hv' => by simp [hv] at hv', rfl, rfl, h.errKnown, h.overflowFull⟩

theorem Inv.after_putTime {s : State} (h : Inv s) (hv : s.valid = true) : Inv (putTime s) :=
  ⟨h.secretFits, h.textFits, fun hv' => by simp [hv] at hv', h.truncated, h.reduced, h.errKnown, h.overflowFull⟩

theorem Inv.after_setCtro {s : State} (h : Inv s) (hv : s.valid = true) (c : DWord) : Inv { s with ctro := c } :=
  ⟨h.secretFits, h.textFits, fun hv' => by simp [hv] at hv', h.truncated, h.reduced, h.errKnown, h.overflowFull⟩

theorem inv_resetBlock (s : State) : Inv (resetBlock s) :=
  ⟨Nat.zero_le _, Nat.zero_le _, fun _ => ⟨rfl, rfl, rfl, rfl, rfl, rfl, rfl, rfl⟩, dynTrunc_zeros.symm,
    (reduce_zero 0).symm, Nat.zero_le _, nofun⟩

theorem Inv.after_exec {s t : State} {i : Instr} (h : Inv s) (hexec : exec i s = .next t) : Inv t := by
  rcases exec_cases hexec with ⟨-, rfl⟩ | ⟨-, rfl⟩ | ⟨c, -, hroom, rfl⟩ | ⟨_, -, hfull, rfl⟩ | ⟨key, -, hd, rfl⟩ |
    ⟨_, -, -, rfl⟩ | ⟨-, rfl⟩ | ⟨-, -, rfl⟩ | ⟨-, -, -, rfl⟩ | ⟨-, hv, rfl⟩ | ⟨-, hv, -, rfl⟩ | ⟨-, hv, -, rfl⟩ |
    ⟨-, hv, -, rfl⟩
  · exact h.after_finish _
  · exact h.after_clearText.after_finish _
  · exact (h.after_append hroom c).after_finish _
  · exact (h.after_overflow hfull).after_finish _
  · obtain ⟨-, hkey⟩ := decodeText_eq_ok hd
    exact (h.after_installDestroy (h.length_of_dec32 hkey)).after_clearText.after_finish _
  · exact h.after_destroy.after_clearText.after_finish _
  · exact h.after_destroy.after_clearText.after_finish _
  · exact h.after_finish _
  · exact h.after_finish _
  · exact (h.after_putCode hv _).after_finish _
  · exact ((h.after_setCtro hv (derive s.tlatch s.engPeriod s.ofs)).after_putTime hv).after_finish _
  · exact ((h.after_putCode hv _).after_putTime hv).after_finish _
  · exact ((h.after_putCode hv _).after_putTime hv).after_finish _

/-! ### The results -/

theorem dynTrunc_lt (d : Digest) : (dynTrunc d).toNat < 2 ^ 31 := by
  obtain ⟨-, -, htop⟩ := dynTruncSelectsTheWindow d _ rfl
  have hmsb : (dynTrunc d).msb = false := (BitVec.msb_eq_getLsbD_last _).trans htop
  have hlt := BitVec.msb_eq_false_iff_two_mul_lt.1 hmsb
  omega

/-! ### The obligations -/

/-- Settles O37. -/
theorem resetMeetsInv : Obligations.ResetMeetsInv :=
  inv_resetBlock State.reset

/-- Settles O38: every change a step can make keeps the invariants. -/
theorem stepKeepsInv : Obligations.StepKeepsInv := by
  intro s t hs h
  cases stepEnd_of_step h with
  | command i rest hc hd hexec => exact (hs.after_withScript rest).after_exec hexec
  | illegal rest hc hd ht => exact ht ▸ (hs.after_withScript rest).after_finish .illcmd
  | reset rest hr ht => exact ht ▸ inv_resetBlock (s.withScript rest)
  | write off v rest hw ht => exact ht ▸ (hs.after_withScript rest).after_hostWrite off v
  | pass hc hr ht => exact hs.of_frame (by rw [ht])

/-- Settles O39: `DBC` is a truncation, so 31 bits, and `CODE` is its remainder. -/
theorem invBoundsTheResults : Obligations.InvBoundsTheResults := by
  intro s hs
  obtain ⟨-, -, htop⟩ := dynTruncSelectsTheWindow s.digest _ rfl
  have hlt : s.dbc.toNat < 2 ^ 31 := hs.truncated ▸ dynTrunc_lt s.digest
  obtain ⟨-, hle, hpow, -, -⟩ := reduceIsExactModulo s.dbc s.engDigits hlt
  rw [← hs.truncated] at htop
  rw [← hs.reduced] at hle hpow
  exact ⟨htop, hle, fun _ => hpow⟩

end Sys2Proof.Machine

/-! PROOFS. Legal and illegal command words (spec/30_encoding.md rules R63, R64, R66). -/

namespace Sys2Proof

/-! ### The legal words -/

/-- Every command, `PUTC` with each of its immediates. -/
def allInstrs : List Instr :=
  [.nop, .clrt, .construct, .zeroize, .hotp, .ctrgen, .totp, .totpo] ++
    (List.finRange 256).map fun c => .putc (BitVec.ofFin c)

theorem mem_allInstrs (i : Instr) : i ∈ allInstrs := by
  cases i with
  | putc c => exact List.mem_append_right _ (List.mem_map.2 ⟨c.toFin, List.mem_finRange _, rfl⟩)
  | nop | clrt | construct | zeroize | hotp | ctrgen | totp | totpo => exact List.mem_append_left _ (by decide)

theorem nodup_allInstrs : allInstrs.Nodup := by
  refine List.nodup_append'.2 ⟨by decide, (List.nodup_finRange 256).map fun c c' h => ?_, ?_⟩
  · simpa using h
  · simp [List.Disjoint]

theorem length_allInstrs : allInstrs.length = 264 := by
  simp [allInstrs]

theorem encode_injective : Function.Injective encode := fun i i' h => by
  simpa [decode_encode] using congrArg decode h

theorem decode_eq_ok_iff {w : Word} {i : Instr} : decode w = .ok i ↔ encode i = w :=
  ⟨encode_of_decode, fun h => h ▸ decode_encode i⟩

/-! ### The illegal words -/

theorem decodeC0_error_iff (op : Byte) :
    (∃ e, decodeC0 op = .error e) ↔ op ∉ ([0x00, 0x01, 0x03, 0x04, 0x10, 0x11, 0x12, 0x13] : List Byte) := by
  unfold decodeC0
  split <;> simp_all

/-- The causes R64 lists are the three tests of `decode`. -/
theorem decode_error_iff (w : Word) :
    (∃ e, decode w = .error e) ↔
      rsvField w ≠ 0 ∨ (opField w ≠ 0x02 ∧ immField w ≠ 0) ∨
        opField w ∉ ([0x00, 0x01, 0x02, 0x03, 0x04, 0x10, 0x11, 0x12, 0x13] : List Byte) := by
  unfold decode
  split_ifs with hrsv hop himm
  · exact iff_of_true ⟨_, rfl⟩ (.inl hrsv)
  · simp [not_not.1 hrsv, hop]
  · exact iff_of_true ⟨_, rfl⟩ (.inr (.inl ⟨hop, himm⟩))
  · rw [decodeC0_error_iff]
    simp [not_not.1 hrsv, not_not.1 himm, hop]

/-! ### The obligations -/

/-- Settles O3. -/
theorem decodeInvertsEncode : Obligations.DecodeInvertsEncode :=
  fun _ _ => decode_eq_ok_iff

/-- Settles O5. -/
theorem spelledWordsDecode : Obligations.SpelledWordsDecode :=
  ⟨decode_encode .nop, decode_encode .clrt, decode_encode (.putc 0x41), decode_encode .construct, decode_encode .zeroize,
    decode_encode .hotp, decode_encode .ctrgen, decode_encode .totp, decode_encode .totpo, rfl, rfl, rfl⟩

end Sys2Proof

namespace Sys2Proof.Machine

theorem step_of_core {s : State} {rest : List Event} (h : s.env.script = .core :: rest) :
    step s = coreTurn (s.withScript rest) :=
  step_of_script_cons h

theorem coreTurn_of_busy {s : State} (hb : s.busy = true) : coreTurn s = complete s :=
  if_pos hb

theorem complete_of_ok {s : State} {i : Instr} (hd : decode s.pend = .ok i) : complete s = exec i s := by
  rw [complete, hd]

theorem complete_of_error {s : State} {e : Illegal} (hd : decode s.pend = .error e) :
    complete s = .next (finish .illcmd s) := by
  rw [complete, hd]
  rfl

/-- Settles O4: the legal words are the encodings of the 264 commands, and the others fail one of the decoder's tests. -/
theorem illegalWordsFailWithIllcmd : Obligations.IllegalWordsFailWithIllcmd := by
  refine ⟨decode_error_iff, ⟨allInstrs.map encode, nodup_allInstrs.map encode_injective, ?_, fun w => ?_⟩,
    fun s w hidle => ?_, fun s e hb hd => ⟨fun hs => ?_, fun rest hs => ?_⟩⟩
  · rw [List.length_map, length_allInstrs]
  · simp [decode_eq_ok_iff, mem_allInstrs]
  · rw [hostWrite_cmd_of_idle w hidle]
    exact ⟨rfl, rfl⟩
  · rw [step_of_script_nil hs, coreTurn_of_busy hb, complete_of_error hd]
    rfl
  · rw [step_of_core hs, coreTurn_of_busy (s := s.withScript rest) hb, complete_of_error (s := s.withScript rest) hd]
    rfl

/-- Settles O1. -/
theorem stepRunsDecodedCommand : Obligations.StepRunsDecodedCommand := by
  refine fun s i hb hd => ⟨fun hs => ?_, fun rest hs => ?_⟩
  · rw [step_of_script_nil hs, coreTurn_of_busy hb, complete_of_ok hd]
  · rw [step_of_core hs, coreTurn_of_busy (s := s.withScript rest) hb, complete_of_ok (s := s.withScript rest) hd]

end Sys2Proof.Machine

/-! PROOFS. Secrecy (spec/10_state.md section 5, rule R29): replacing the bytes of the secret and of the text by as many others
changes no read, and goes through every turn but the completions that compute from them. -/

namespace Sys2Proof.Machine

/-! ### Other bytes in place of the secret's and the text's -/

/-- The state with these bytes as its secret and its text. -/
def State.withBytes (s : State) (key text : List Byte) : State := { s with secret := key, txt := text }

theorem sameButSecrets_iff {s t : State} :
    SameButSecrets s t ↔ ∃ key text, t = s.withBytes key text ∧ key.length = s.klen ∧ text.length = s.tlen := by
  constructor
  · rintro ⟨ht, hk, hx⟩
    exact ⟨t.secret, t.txt, ht, hk, hx⟩
  · rintro ⟨key, text, rfl, hk, hx⟩
    exact ⟨rfl, hk, hx⟩

section
variable {s : State} {key text : List Byte}

theorem sameButSecrets_withBytes (hk : key.length = s.klen) (hx : text.length = s.tlen) :
    SameButSecrets s (s.withBytes key text) :=
  sameButSecrets_iff.2 ⟨key, text, rfl, hk, hx⟩

theorem lenWord_withBytes (hk : key.length = s.klen) (hx : text.length = s.tlen) :
    lenWord (s.withBytes key text) = lenWord s := by
  have hklen : (s.withBytes key text).klen = s.klen := hk
  have htlen : (s.withBytes key text).tlen = s.tlen := hx
  rw [lenWord, lenWord, hklen, htlen]

/-- `LEN` is the only register that looks at the two byte sequences (R41). -/
theorem hostRead_withBytes (hk : key.length = s.klen) (hx : text.length = s.tlen) (off : Nat) :
    hostRead (s.withBytes key text) off = hostRead s off := by
  unfold hostRead
  cases regAt off with
  | none => rfl
  | some r =>
    cases r with
    | len => exact lenWord_withBytes hk hx
    | _ => rfl

theorem recordRead_withBytes (hk : key.length = s.klen) (hx : text.length = s.tlen) (off : Nat) :
    recordRead off (s.withBytes key text) = (recordRead off s).withBytes key text := by
  rw [recordRead, hostRead_withBytes hk hx]
  rfl

theorem pollStatus_withBytes (hk : key.length = s.klen) (hx : text.length = s.tlen) :
    pollStatus (s.withBytes key text) = (pollStatus s).withBytes key text := by
  have hlast : lastReadBusy (s.withBytes key text) = lastReadBusy s := rfl
  rw [pollStatus, pollStatus, hlast]
  split
  · exact recordRead_withBytes hk hx _
  · rfl

end

theorem hostWrite_withBytes (off : Nat) (v : Word) (s : State) (key text : List Byte) :
    hostWrite off v (s.withBytes key text) = (hostWrite off v s).withBytes key text :=
  HostWriteCommutes.hostWrite (f := (State.withBytes · key text))
    ⟨fun _ => rfl, fun _ _ => rfl, fun _ _ => rfl, fun _ _ => rfl, fun _ _ => rfl, fun _ _ => rfl, fun _ _ => rfl⟩ off v s

/-! ### The turns -/

section
variable {s t s' : State}

theorem envTurn_sameButSecrets {e : Event} (hst : SameButSecrets s t) (he : e ≠ .core) (h : envTurn e s = .next s') :
    ∃ t', envTurn e t = .next t' ∧ SameButSecrets s' t' := by
  obtain ⟨key, text, rfl, hk, hx⟩ := sameButSecrets_iff.1 hst
  rcases envTurn_cases h with ⟨off, v, rfl, hoff, rfl⟩ | ⟨off, rfl, hoff, rfl⟩ | ⟨rfl, rfl⟩ | ⟨v, rfl, rfl⟩ | ⟨rfl, -⟩ |
    ⟨rfl, rfl⟩
  · refine ⟨_, if_pos hoff, hostWrite_withBytes off v s key text ▸ sameButSecrets_withBytes ?_ ?_⟩
    · simpa [State.klen] using hk
    · rw [hostWrite_frame]
      exact hx
  · exact ⟨_, if_pos hoff, recordRead_withBytes hk hx off ▸ sameButSecrets_withBytes hk hx⟩
  · exact ⟨_, rfl, rfl, rfl, rfl⟩
  · exact ⟨_, rfl, sameButSecrets_withBytes (s := fixTime v s) hk hx⟩
  · exact absurd rfl he
  · refine ⟨_, rfl, pollStatus_withBytes hk hx ▸ ?_⟩
    rw [pollStatus_frame]
    exact sameButSecrets_withBytes hk hx

theorem exec_sameButSecrets {i : Instr} (hst : SameButSecrets s t)
    (hi : i ∉ [Instr.construct, .hotp, .totp, .totpo]) (h : exec i s = .next s') :
    ∃ t', exec i t = .next t' ∧ SameButSecrets s' t' := by
  obtain ⟨key, text, rfl, hk, hx⟩ := sameButSecrets_iff.1 hst
  cases i with
  | nop =>
    obtain rfl := succeed_eq_next.1 h
    exact ⟨_, rfl, sameButSecrets_withBytes (s := finish .ok s) hk hx⟩
  | clrt =>
    obtain rfl := succeed_eq_next.1 h
    exact ⟨_, rfl, rfl, hk, rfl⟩
  | putc c =>
    have htlen : (s.withBytes key text).tlen = s.tlen := hx
    by_cases hroom : s.tlen < s.params.tmax
    · cases (exec_putc_of_lt c hroom).symm.trans h
      refine ⟨_, exec_putc_of_lt c (htlen ▸ hroom), rfl, hk, ?_⟩
      simpa [State.tlen, State.withBytes] using hx
    · cases (exec_putc_of_not_lt c hroom).symm.trans h
      exact ⟨_, exec_putc_of_not_lt c (htlen ▸ hroom), rfl, hk, hx⟩
  | zeroize =>
    obtain rfl := succeed_eq_next.1 h
    exact ⟨_, rfl, rfl, rfl, rfl⟩
  | ctrgen =>
    rcases timeCommand_cases h with ⟨hv, rfl⟩ | ⟨hv, hp, rfl⟩ | ⟨hv, hp, rfl⟩
    · exact ⟨_, timeCommand_of_not_valid (s := s.withBytes key text) hv _, rfl, hk, hx⟩
    · exact ⟨_, timeCommand_of_period_zero (s := s.withBytes key text) hv hp _, rfl, hk, hx⟩
    · exact ⟨_, timeCommand_of_valid (s := s.withBytes key text) hv hp _, rfl, hk, hx⟩
  | construct | hotp | totp | totpo => exact absurd (by decide) hi

theorem coreTurn_sameButSecrets (hst : SameButSecrets s t)
    (hsafe : s.busy = true → ∀ i ∈ [Instr.construct, .hotp, .totp, .totpo], decode s.pend ≠ .ok i)
    (h : coreTurn s = .next s') : ∃ t', coreTurn t = .next t' ∧ SameButSecrets s' t' := by
  obtain ⟨hframe, hk, hx⟩ := hst
  have hpend : t.pend = s.pend := by rw [hframe]
  have hbusy : t.busy = s.busy := by rw [hframe]
  rcases coreTurn_cases h with ⟨hidle, rfl⟩ | ⟨i, hb, hd, hexec⟩ | ⟨e, hb, hd, rfl⟩
  · exact ⟨t, if_neg (by simp [hbusy, hidle]), hframe, hk, hx⟩
  · rw [coreTurn_of_busy (hbusy.trans hb), complete_of_ok (hpend ▸ hd)]
    exact exec_sameButSecrets ⟨hframe, hk, hx⟩ (fun hi => hsafe hb i hi hd) hexec
  · rw [coreTurn_of_busy (hbusy.trans hb), complete_of_error (hpend ▸ hd)]
    exact ⟨_, rfl, by rw [hframe]; rfl, hk, hx⟩

theorem sameButSecrets_withScript (hst : SameButSecrets s t) (es : List Event) :
    SameButSecrets (s.withScript es) (t.withScript es) := by
  obtain ⟨key, text, rfl, hk, hx⟩ := sameButSecrets_iff.1 hst
  exact sameButSecrets_withBytes (s := s.withScript es) hk hx

end

/-! ### The obligations -/

/-- Settles O42. -/
theorem readsRevealNoSecretByte : Obligations.ReadsRevealNoSecretByte := by
  intro s t off hst
  obtain ⟨key, text, rfl, hk, hx⟩ := sameButSecrets_iff.1 hst
  exact hostRead_withBytes hk hx off

/-- Settles O43: the two states have the same script, so the same turn is next, and each turn keeps the relation. -/
theorem secretsFlowOnlyThroughHashingAndConstruct : Obligations.SecretsFlowOnlyThroughHashingAndConstruct := by
  intro s t s' hst hsafe h
  have hscript : t.env.script = s.env.script := by rw [hst.1]
  have hcommand (hn : CoreNext s) (hb : s.busy = true) :
      ∀ i ∈ [Instr.construct, .hotp, .totp, .totpo], decode s.pend ≠ .ok i :=
    fun i hi hd => hsafe ⟨⟨hn, hb⟩, i, hi, hd⟩
  rcases step_cases h with ⟨hs, hcore⟩ | ⟨e, rest, hs, henv⟩
  · rw [step_of_script_nil (hscript.trans hs)]
    exact coreTurn_sameButSecrets hst (hcommand (.inl hs)) hcore
  · rw [step_of_script_cons (hscript.trans hs)]
    have hst' := sameButSecrets_withScript hst rest
    by_cases he : e = .core
    · subst he
      exact coreTurn_sameButSecrets hst' (hcommand (.inr ⟨rest, hs⟩)) henv
    · exact envTurn_sameButSecrets hst' he henv

end Sys2Proof.Machine

/-! PROOFS. Single turns (spec/00_scope.md rule R8): Complete in any environment (R57), reads and refusals at the port (R42,
R45), Accept (R56), Reset (R150), and every script's coming to rest (spec/30_encoding.md section 5). -/

namespace Sys2Proof.Machine

theorem portOffset_iff (off : Nat) : portOffset off = true ↔ off % 4 = 0 ∧ off ≤ 0xFC := by
  simp [portOffset]

theorem Reg.offset_le (r : Reg) : r.offset ≤ 0x54 := by
  cases r <;> decide

theorem envTurn_write {off : Nat} (h : portOffset off = true) (v : Word) (s : State) :
    envTurn (.write off v) s = .next (hostWrite off v s) :=
  if_pos h

theorem envTurn_read {off : Nat} (h : portOffset off = true) (s : State) :
    envTurn (.read off) s = .next (recordRead off s) :=
  if_pos h

/-! ### Another environment -/

/-- The same block in another environment. -/
def State.withEnv (s : State) (e : Env) : State := { s with env := e }

/-- No command looks at the environment (R57). -/
theorem exec_withEnv {i : Instr} {s t : State} (h : exec i s = .next t) (e : Env) :
    exec i (s.withEnv e) = .next (t.withEnv e) := by
  rcases exec_cases h with ⟨rfl, rfl⟩ | ⟨rfl, rfl⟩ | ⟨c, rfl, hroom, rfl⟩ | ⟨c, rfl, hfull, rfl⟩ | ⟨_, rfl, hd, rfl⟩ |
    ⟨_, rfl, hd, rfl⟩ | ⟨rfl, rfl⟩ | ⟨hi, hv, rfl⟩ | ⟨hi, hv, hp, rfl⟩ | ⟨rfl, hv, rfl⟩ | ⟨rfl, hv, hp, rfl⟩ |
    ⟨rfl, hv, hp, rfl⟩ | ⟨rfl, hv, hp, rfl⟩
  · rfl
  · rfl
  · exact exec_putc_of_lt c (s := s.withEnv e) hroom
  · exact exec_putc_of_not_lt c (s := s.withEnv e) hfull
  · exact exec_construct_of_ok (s := s.withEnv e) hd
  · exact exec_construct_of_error (s := s.withEnv e) hd
  · rfl
  · rcases hi with rfl | rfl | rfl | rfl
    · exact exec_hotp_of_not_valid (s := s.withEnv e) hv
    all_goals exact timeCommand_of_not_valid (s := s.withEnv e) hv _
  · rcases hi with rfl | rfl | rfl <;> exact timeCommand_of_period_zero (s := s.withEnv e) hv hp _
  · exact exec_hotp_of_valid (s := s.withEnv e) hv
  · exact timeCommand_of_valid (s := s.withEnv e) hv hp _
  · exact timeCommand_of_valid (s := s.withEnv e) hv hp _
  · exact timeCommand_of_valid (s := s.withEnv e) hv hp _

/-- A Complete step ends in `IDLE`, leaves the environment alone, and is the same in every environment. -/
theorem complete_ends (s : State) : ∃ t, complete s = .next t ∧ t.busy = false ∧ t.env = s.env ∧
    ∀ e, complete (s.withEnv e) = .next (t.withEnv e) := by
  cases hd : decode s.pend with
  | error d => exact ⟨_, complete_of_error hd, rfl, rfl, fun e => complete_of_error (s := s.withEnv e) hd⟩
  | ok i =>
    obtain ⟨t, hexec⟩ := exec_total i s
    exact ⟨t, (complete_of_ok hd).trans hexec, exec_busy hexec, exec_env hexec,
      fun e => (complete_of_ok (s := s.withEnv e) hd).trans (exec_withEnv hexec e)⟩

/-! ### The script is consumed turn by turn -/

theorem coreTurn_of_idle {s : State} (hb : s.busy = false) : coreTurn s = .next s :=
  if_neg (by simp [hb])

/-- The core's turn ends in `IDLE` and leaves the environment alone. -/
theorem coreTurn_total (s : State) : ∃ t, coreTurn s = .next t ∧ t.busy = false ∧ t.env = s.env := by
  cases hb : s.busy with
  | false => exact ⟨s, coreTurn_of_idle hb, hb, rfl⟩
  | true =>
    rw [coreTurn_of_busy hb]
    obtain ⟨t, ht, hidle, henv, -⟩ := complete_ends s
    exact ⟨t, ht, hidle, henv⟩

theorem envTurn_of_portTurn {e : Event} (he : portTurn e = true) (s : State) :
    ∃ t, envTurn e s = .next t ∧ t.env.script = s.env.script := by
  cases e with
  | write off v => exact ⟨_, envTurn_write he v s, hostWrite_script off v s⟩
  | read off => exact ⟨_, envTurn_read he s, rfl⟩
  | poll => exact ⟨_, rfl, by rw [pollStatus_frame]⟩
  | reset | time v => exact ⟨_, rfl, rfl⟩
  | core =>
    obtain ⟨t, ht, -, henv⟩ := coreTurn_total s
    exact ⟨t, ht, by rw [henv]⟩

theorem run_portTurns {es : List Event} {s : State} (hs : s.env.script = es) (hes : es.all portTurn = true) :
    ∃ t, Host.Core.run Sys2Proof.core es.length s = .next t ∧ t.env.script = [] := by
  induction es generalizing s with
  | nil => exact ⟨s, rfl, hs⟩
  | cons e rest ih =>
    obtain ⟨he, hrest⟩ := Bool.and_eq_true_iff.1 (List.all_cons.symm.trans hes)
    obtain ⟨u, hu, hscript⟩ := envTurn_of_portTurn he (s.withScript rest)
    obtain ⟨t, ht, hend⟩ := ih hscript hrest
    exact ⟨t, (run_succ ((step_of_script_cons hs).trans hu)).trans ht, hend⟩

/-! ### The obligations -/

/-- Settles O18. -/
theorem hostReadReturnsRegister : Obligations.HostReadReturnsRegister := by
  refine ⟨fun s => ?_, fun s off hoff => hostRead_unmapped (fun r => (r.offset_le.trans_lt hoff).ne') s,
    fun s off rest hs hoff => ?_⟩
  · have read := hostRead_offset s
    exact ⟨read .cmd, read .status, read .cfgDigits, read .cfgPeriod, read .ctrLo, read .ctrHi, read .ofsLo, read .ofsHi,
      read .code, read .dbc, read .ctroLo, read .ctroHi, read .tsnapLo, read .tsnapHi, read .len, read .engDigits,
      read .engPeriod, read .digest0, read .digest1, read .digest2, read .digest3, read .digest4⟩
  · rw [step_of_script_cons hs, envTurn_read hoff, recordRead]
    rfl

/-- Settles O25. -/
theorem portRefusesWhatItLacks : Obligations.PortRefusesWhatItLacks := by
  refine fun s off v rest hs => ⟨fun hoff => ?_, fun h4 hmax => ?_⟩
  · have hport : ¬ portOffset off = true := by
      rw [portOffset_iff]
      omega
    rcases hs with hs | hs <;> exact (step_of_script_cons hs).trans (if_neg hport)
  · have hport := (portOffset_iff off).2 ⟨h4, hmax⟩
    rcases hs with hs | hs <;> exact ⟨_, (step_of_script_cons hs).trans (if_pos hport)⟩

/-- Settles O26. -/
theorem acceptLatchesWordAndTime : Obligations.AcceptLatchesWordAndTime := by
  exact fun s w hidle => ⟨hostWrite_cmd_of_idle w hidle, fun v hv => by rw [now, hv, Option.getD_some],
    fun hfree => by rw [now, hfree, Option.getD_none]⟩

/-- Settles O29. -/
theorem resetStepDiscardsEverything : Obligations.ResetStepDiscardsEverything :=
  fun _ _ hs => step_of_script_cons hs

/-- Settles O40: each turn of the script is a step, and the core's turn after the last ends in `IDLE`. -/
theorem everyScriptComesToRest : Obligations.EveryScriptComesToRest := by
  refine ⟨fun s hall => ?_, fun s ⟨hs, hidle⟩ => (step_of_script_nil hs).trans (coreTurn_of_idle hidle)⟩
  obtain ⟨u, hrun, hend⟩ := run_portTurns rfl hall
  obtain ⟨t, hcore, hidle, henv⟩ := coreTurn_total u
  exact ⟨t, (run_add hrun).trans (run_succ ((step_of_script_nil hend).trans hcore)), by rw [henv, hend], hidle⟩

/-- Settles O55: `TOTPO` and `HOTP` run the one pipeline on the one counter, which `CTRGEN` derives. -/
theorem windowRelation : Obligations.WindowRelation := fun s hv hp =>
  ⟨_, _, _, timeCommand_of_valid hv hp _, timeCommand_of_valid hv hp _,
    exec_hotp_of_valid (s := { s with ctr := derive s.tlatch s.engPeriod s.ofs }) hv, rfl, rfl, rfl, rfl, rfl, rfl, rfl, rfl⟩

end Sys2Proof.Machine

/-! PROOFS. Runs of host scripts (spec/30_encoding.md rules R65 to R67): what a piece of a script does whatever follows it, how
pieces are put together, and the statements that wait. -/

namespace Sys2Proof.Machine

/-! ### Another script -/

theorem hostWrite_withScript (off : Nat) (v : Word) (s : State) (es : List Event) :
    hostWrite off v (s.withScript es) = (hostWrite off v s).withScript es :=
  HostWriteCommutes.hostWrite (f := (State.withScript · es))
    ⟨fun _ => rfl, fun _ _ => rfl, fun _ _ => rfl, fun _ _ => rfl, fun _ _ => rfl, fun _ _ => rfl, fun _ _ => rfl⟩ off v s

theorem hostRead_withScript (s : State) (es : List Event) (off : Nat) : hostRead (s.withScript es) off = hostRead s off := by
  unfold hostRead
  cases regAt off with
  | none => rfl
  | some r => cases r <;> rfl

/-! ### Pieces of a script -/

/-- The turns `es`, whatever the script holds after them, take `s` to `t`. -/
def Runs (es : List Event) (s t : State) : Prop :=
  ∀ rest, Host.Core.run Sys2Proof.core es.length (s.withScript (es ++ rest)) = .next (t.withScript rest)

section
variable {es es' : List Event} {s t u : State}

theorem Runs.nil (s : State) : Runs [] s s := fun _ => rfl

theorem Runs.append (h : Runs es s t) (h' : Runs es' t u) : Runs (es ++ es') s u := fun rest => by
  rw [List.length_append, List.append_assoc, run_add (h (es' ++ rest)), h' rest]

theorem Runs.single {e : Event} (h : ∀ rest, envTurn e (s.withScript rest) = .next (t.withScript rest)) :
    Runs [e] s t := fun rest =>
  run_succ (n := 0) ((step_of_script_cons (s := s.withScript (e :: rest)) rfl).trans (h rest))

theorem Runs.cons {e : Event} (h : Runs [e] s t) (h' : Runs es t u) : Runs (e :: es) s u :=
  h.append h'

/-- The run of a whole script. -/
theorem Runs.run_eq (h : Runs es s t) :
    Host.Core.run Sys2Proof.core es.length (s.withScript es) = .next (t.withScript []) := by
  simpa using h []

/-! ### Single turns -/

theorem runs_write {off : Nat} (hoff : portOffset off = true) (v : Word) (s : State) :
    Runs [.write off v] s (hostWrite off v s) :=
  .single fun rest => by rw [envTurn_write hoff, hostWrite_withScript]

theorem runs_read {off : Nat} (hoff : portOffset off = true) (s : State) : Runs [.read off] s (recordRead off s) :=
  .single fun rest => by
    rw [envTurn_read hoff, recordRead, hostRead_withScript]
    rfl

/-- A command statement in `IDLE` is accepted (R56, R66). -/
theorem runs_command (i : Instr) (hb : s.busy = false) : Runs [commandTurn i] s (accept (encode i) s) := by
  rw [← hostWrite_cmd_of_idle (encode i) hb]
  exact runs_write (by decide) (encode i) s

theorem runs_reset (s : State) : Runs [.reset] s (resetBlock s) :=
  .single fun _ => rfl

theorem runs_time (v : DWord) (s : State) : Runs [.time v] s (fixTime v s) :=
  .single fun _ => rfl

theorem runs_core_of_idle (hb : s.busy = false) : Runs [.core] s s :=
  .single fun rest => coreTurn_of_idle (s := s.withScript rest) hb

theorem runs_core_of_busy (hb : s.busy = true) (h : complete s = .next t) : Runs [.core] s t :=
  .single fun rest => by
    obtain ⟨t', ht', -, henv, hall⟩ := complete_ends s
    cases ht'.symm.trans h
    have hscript : t.withScript rest = t.withEnv { s.env with script := rest } := by rw [State.withScript, henv]; rfl
    rw [hscript]
    exact (coreTurn_of_busy (s := s.withScript rest) hb).trans (hall _)

theorem runs_poll_of_idle (h : lastReadBusy s = false) : Runs [.poll] s s :=
  .single fun rest => by
    have hlast : lastReadBusy (s.withScript rest) = false := h
    rw [envTurn, pollStatus, hlast]
    rfl

theorem runs_poll_of_busy (h : lastReadBusy s = true) : Runs [.poll] s (recordRead Reg.status.offset s) :=
  .single fun rest => by
    have hpoll : pollStatus (s.withScript rest) = recordRead Reg.status.offset (s.withScript rest) := if_pos h
    rw [envTurn, hpoll, recordRead, hostRead_withScript]
    rfl

/-! ### `WAIT` -/

/-- The state after `n` reads of `STATUS`. -/
def State.polled (s : State) (n : Nat) : State :=
  { s with env := { s.env with seen := List.replicate n ⟨Reg.status.offset, statusWord s⟩ ++ s.env.seen } }

theorem recordRead_status (s : State) : recordRead Reg.status.offset s = s.polled 1 := by
  rw [recordRead, hostRead_offset]
  rfl

theorem polled_succ (s : State) (n : Nat) : recordRead Reg.status.offset (s.polled n) = s.polled (n + 1) := by
  rw [recordRead, hostRead_offset]
  rfl

/-- After a read of `STATUS` the host knows whether the core is busy, and more reads tell it the same. -/
theorem lastReadBusy_polled_succ (s : State) (n : Nat) : lastReadBusy (s.polled (n + 1)) = s.busy := by
  rw [← polled_succ, lastReadBusy_recordRead]
  rfl

theorem runs_polls_of_idle (h : lastReadBusy s = false) : ∀ n, Runs (List.replicate n .poll) s s
  | 0 => .nil s
  | n + 1 => (runs_poll_of_idle h).cons (runs_polls_of_idle h n)

theorem runs_polls_of_busy (hb : s.busy = true) (k : Nat) :
    ∀ n, Runs (List.replicate n .poll) (s.polled (k + 1)) (s.polled (k + 1 + n))
  | 0 => .nil _
  | n + 1 => by
    have hread := runs_poll_of_busy ((lastReadBusy_polled_succ s k).trans hb)
    rw [polled_succ] at hread
    rw [show k + 1 + (n + 1) = k + 1 + 1 + n by omega]
    exact hread.cons (runs_polls_of_busy hb (k + 1) n)

/-- Begun in `IDLE`, `WAIT` reads `STATUS` once (R67). -/
theorem runs_wait_of_idle (hb : s.busy = false) (polls : Nat) : Runs (waitTurns polls) s (s.polled 1) := by
  have hread : Runs [.read Reg.status.offset] s (s.polled 1) := recordRead_status s ▸ runs_read (by decide) s
  have hidle : lastReadBusy (s.polled 1) = false := (lastReadBusy_polled_succ s 0).trans hb
  cases polls with
  | zero => exact (runs_core_of_idle hb).cons hread
  | succ more =>
    exact hread.cons ((runs_polls_of_idle hidle more).append
      ((runs_core_of_idle (s := s.polled 1) hb).cons (runs_poll_of_idle hidle)))

/-- Begun in `BUSY`, `WAIT` reads `STATUS` `polls` times before the command completes, and once after (R67). -/
theorem runs_wait_of_busy (hb : s.busy = true) (h : complete s = .next t) (polls : Nat) :
    Runs (waitTurns polls) s ((t.withEnv (s.polled polls).env).polled 1) := by
  obtain ⟨t', ht', hidle, henv, hall⟩ := complete_ends s
  cases ht'.symm.trans h
  have hcore : Runs [.core] (s.polled polls) (t.withEnv (s.polled polls).env) :=
    runs_core_of_busy (s := s.polled polls) hb (hall _)
  cases polls with
  | zero => exact hcore.cons (recordRead_status _ ▸ runs_read (by decide) _)
  | succ more =>
    have hread : Runs [.read Reg.status.offset] s (s.polled 1) := recordRead_status s ▸ runs_read (by decide) s
    have hpolls := runs_polls_of_busy hb 0 more
    have hlast : lastReadBusy (t.withEnv (s.polled (more + 1)).env) = true :=
      (lastReadBusy_polled_succ s more : lastReadBusy _ = s.busy).trans hb
    rw [show 0 + 1 + more = more + 1 by omega] at hpolls
    exact hread.cons (hpolls.append (hcore.cons (recordRead_status _ ▸ runs_poll_of_busy hlast)))

/-- `X!` from `IDLE`: the command runs on the accepted state, and the host has read `STATUS` some times (R67). -/
theorem runs_commandWait {i : Instr} (hb : s.busy = false) (h : exec i (accept (encode i) s) = .next t) (polls : Nat) :
    ∃ e, Runs (commandWaitTurns i polls) s (t.withEnv e) := by
  have hcomplete : complete (accept (encode i) s) = .next t :=
    (complete_of_ok (s := accept (encode i) s) (decode_encode i)).trans h
  exact ⟨_, (runs_command i hb).cons (runs_wait_of_busy (accept_busy (encode i) s) hcomplete polls)⟩

end

/-! ### The obligations -/

/-- Settles O57. -/
theorem waitReadsStatusUntilIdle : Obligations.WaitReadsStatusUntilIdle := by
  refine ⟨statusWord_busy, fun s polls hb => (runs_wait_of_idle hb polls).run_eq, fun s polls hb => ?_⟩
  obtain ⟨t, ht, hidle, henv, -⟩ := complete_ends (s.withScript [])
  refine ⟨t, ht, hidle, (runs_wait_of_busy (s := s.withScript []) hb ht polls).run_eq.trans ?_⟩
  rw [henv]
  rfl

/-- Settles O58. -/
theorem expectReadsAndClaims : Obligations.ExpectReadsAndClaims := by
  intro s off v hoff
  have hrun := (runs_read hoff s).run_eq
  have hclaim : (Stmt.expect off v).claim ((recordRead off s).withScript []) = true ↔ hostRead s off = v := by
    simp [Stmt.claim]
  refine ⟨_, hrun, rfl, hclaim, ?_⟩
  simp only [claimsHold, Stmt.turns, hrun, Bool.and_true, hclaim]

theorem complete_totp {s : State} (hpend : s.pend = encode .totp) (hv : s.valid = true) (hp : s.engPeriod ≠ 0) :
    complete s = .next (finish .ok (putTime (putCode (derive s.tlatch s.engPeriod 0) s))) := by
  rw [complete_of_ok (hpend ▸ decode_encode .totp), exec, execTotp, timeCommand_of_valid hv hp]

/-- Settles O56: the Accept latches the time the script has fixed by then, and `TOTP` uses the latch. -/
theorem timeIsSampledAtAccept : Obligations.TimeIsSampledAtAccept := by
  intro s v v' hb hv hp
  have hcomplete := complete_totp (s := fixTime v' (accept (encode .totp) (fixTime v s))) rfl hv hp
  have hrun := (runs_time v s).cons ((runs_command .totp (s := fixTime v s) hb).cons
    ((runs_time v' _).cons (runs_core_of_busy rfl hcomplete)))
  exact ⟨_, hrun.run_eq, rfl, rfl, rfl, rfl, rfl⟩

end Sys2Proof.Machine

/-! PROOFS. Scripts in which every command is waited for (spec/70_reset_and_hazards.md section 3): each statement takes an idle
block without `OVR` to another one. -/

namespace Sys2Proof.Machine

/-- Between two statements of such a script: no command in flight and no write lost. -/
def Quiet (s : State) : Prop := s.busy = false ∧ s.ovr = false

/-- From every quiet state these turns run to a quiet state. -/
def QuietRuns (es : List Event) : Prop := ∀ s, Quiet s → ∃ t, Runs es s t ∧ Quiet t

theorem QuietRuns.nil : QuietRuns [] := fun s hs => ⟨s, .nil s, hs⟩

theorem QuietRuns.append {es es' : List Event} (h : QuietRuns es) (h' : QuietRuns es') : QuietRuns (es ++ es') :=
  fun s hs => by
    obtain ⟨t, hst, ht⟩ := h s hs
    obtain ⟨u, htu, hu⟩ := h' t ht
    exact ⟨u, hst.append htu, hu⟩

theorem QuietRuns.cons {e : Event} {es : List Event} (h : QuietRuns [e]) (h' : QuietRuns es) : QuietRuns (e :: es) :=
  h.append h'

theorem QuietRuns.flatMap {α : Type} {f : α → List Event} {xs : List α} (h : ∀ x ∈ xs, QuietRuns (f x)) :
    QuietRuns (xs.flatMap f) := by
  induction xs with
  | nil => exact .nil
  | cons x xs ih => exact (h x List.mem_cons_self).append (ih fun y hy => h y (List.mem_cons_of_mem x hy))

/-! ### The turns -/

/-- In `IDLE` a write elsewhere than to `CMD` is stored or ignored (R43, R44). -/
theorem Quiet.hostWrite {s : State} (hs : Quiet s) {off : Nat} (hoff : off ≠ Reg.cmd.offset) (v : Word) :
    Quiet (hostWrite off v s) := by
  obtain ⟨hidle, hovr⟩ := hs
  constructor
  · rcases hostWrite_busy_cases off v s with hsame | ⟨hcmd, -⟩
    · rw [hsame, hidle]
    · exact absurd hcmd hoff
  · rcases hostWrite_ovr_cases off v s with hsame | ⟨hb, -⟩ | ⟨-, -, hclear⟩
    · rw [hsame, hovr]
    · simp [hb] at hidle
    · exact hclear

theorem quietRuns_write {off : Nat} (hport : portOffset off = true) (hoff : off ≠ Reg.cmd.offset) (v : Word) :
    QuietRuns [.write off v] :=
  fun s hs => ⟨_, runs_write hport v s, hs.hostWrite hoff v⟩

theorem quietRuns_read {off : Nat} (hport : portOffset off = true) : QuietRuns [.read off] :=
  fun s hs => ⟨_, runs_read hport s, hs⟩

theorem quietRuns_readReg (r : Reg) : QuietRuns [.read r.offset] :=
  quietRuns_read (by cases r <;> decide)

theorem quietRuns_wait (polls : Nat) : QuietRuns (waitTurns polls) :=
  fun _ hs => ⟨_, runs_wait_of_idle hs.1 polls, hs⟩

/-- A command waited for ends in `IDLE` and leaves `OVR` (R23, R57). -/
theorem quietRuns_commandWait (i : Instr) (polls : Nat) : QuietRuns (commandWaitTurns i polls) := by
  intro s ⟨hidle, hovr⟩
  obtain ⟨t, hexec⟩ := exec_total i (accept (encode i) s)
  obtain ⟨e, hrun⟩ := runs_commandWait hidle hexec polls
  exact ⟨_, hrun, (exec_busy hexec :), (exec_ovr hexec).trans hovr⟩

theorem quietRuns_stmt {stmt : Stmt} (h : stmt.waitsForCommands = true) : QuietRuns stmt.turns := by
  cases stmt with
  | wr off v =>
    simp only [Stmt.waitsForCommands, Bool.and_eq_true, bne_iff_ne] at h
    exact quietRuns_write h.1 h.2 v
  | rd off | expect off v => exact quietRuns_read h
  | reset => exact fun s _ => ⟨_, runs_reset s, rfl, rfl⟩
  | time v => exact fun s hs => ⟨_, runs_time v s, hs⟩
  | cmd i => cases h
  | wait polls => exact quietRuns_wait polls
  | cmdWait i polls => exact quietRuns_commandWait i polls
  | wr64 p v =>
    cases p with
    | ctr | ofs => exact (quietRuns_write (by decide) (by decide) _).cons (quietRuns_write (by decide) (by decide) _)
  | rd64 p => exact (quietRuns_readReg p.regs.1).cons (quietRuns_readReg p.regs.2)
  | rdDigest =>
    exact (quietRuns_readReg _).cons ((quietRuns_readReg _).cons ((quietRuns_readReg _).cons ((quietRuns_readReg _).cons
      (quietRuns_readReg _))))
  | puts text polls => exact .flatMap fun c _ => quietRuns_commandWait (.putc c) polls
  | loadKey text polls =>
    exact ((quietRuns_commandWait .clrt polls).append (.flatMap fun c _ => quietRuns_commandWait (.putc c) polls)).append
      (quietRuns_commandWait .construct polls)
  | clrOvr => exact quietRuns_write (by decide) (by decide) _
  | coreTurn => exact fun s hs => ⟨s, runs_core_of_idle hs.1, hs⟩

/-! ### The obligation -/

/-- Settles O41: the statements run one after another, and each keeps the state quiet. -/
theorem waitedScriptsNeverOverrun : Obligations.WaitedScriptsNeverOverrun := by
  intro s script hidle hovr hall
  have hquiet : QuietRuns (scriptTurns script) :=
    .flatMap fun stmt hstmt => quietRuns_stmt (List.all_eq_true.1 hall stmt hstmt)
  obtain ⟨t, hrun, hidle', hovr'⟩ := hquiet s ⟨hidle, hovr⟩
  exact ⟨_, hrun.run_eq, hidle', hovr', rfl⟩

end Sys2Proof.Machine

/-! PROOFS. HMAC keys (spec/41_hmac_sha1.md section 3, laws (b) and (c)): HMAC looks at its key through the block key alone. -/

namespace Sys2Proof.Machine

theorem hmacSha1_eq_of_blockKey {k k' : List Byte} (h : blockKey k = blockKey k') (m : List Byte) :
    hmacSha1 k m = hmacSha1 k' m := by
  rw [hmacSha1, hmacSha1, h]

theorem blockKey_append_zeros {k : List Byte} {n : Nat} (h : k.length + n ≤ 64) :
    blockKey (k ++ List.replicate n 0) = blockKey k := by
  have hlen : (k ++ List.replicate n 0).length = k.length + n := by simp
  rw [blockKey_of_le (hlen ▸ h), blockKey_of_le (by omega), hlen, List.append_assoc, List.replicate_append_replicate,
    show n + (64 - (k.length + n)) = 64 - k.length by omega]

theorem blockKey_sha1 {k : List Byte} (h : 64 < k.length) : blockKey (sha1 k).toList = blockKey k := by
  have hlen : (sha1 k).toList.length = 20 := Vector.length_toList
  rw [blockKey_of_le (by omega), blockKey_of_lt h, hlen]

/-- Settles O51: both laws hold of the block key. -/
theorem hmacKeyEquivalences : Obligations.HmacKeyEquivalences :=
  ⟨fun _ m _ h => hmacSha1_eq_of_blockKey (blockKey_append_zeros h) m,
    fun _ m h => hmacSha1_eq_of_blockKey (blockKey_sha1 h).symm m⟩

end Sys2Proof.Machine

/-! PROOFS. `DEC32` undoes `ENC32` (spec/40_secret_load.md section 4, law (a)): a text that spells five-bit values, whose bits
are those of the bytes, decodes to the bytes. -/

namespace Sys2Proof.Machine

/-! ### Bytes and their bits -/

/-- Eight bits, most significant first. -/
def bits8 (b : Byte) : List Bool := [b[7], b[6], b[5], b[4], b[3], b[2], b[1], b[0]]

theorem byteOfBits_bits8_append (b : Byte) (rest : List Bool) : byteOfBits (bits8 b ++ rest) = b := by
  apply BitVec.eq_of_getLsbD_eq
  intro k hk
  have hbit : (byteOfBits (bits8 b ++ rest)).getLsbD (7 - (7 - k)) = (bits8 b ++ rest).getD (7 - k) false :=
    getLsbD_byteOfBits (by simp [bits8]) (by omega)
  rw [show 7 - (7 - k) = k by omega, List.getD_append _ _ _ _ (show 7 - k < 8 by omega)] at hbit
  rw [hbit]
  match k, hk with
  | 0, _ | 1, _ | 2, _ | 3, _ | 4, _ | 5, _ | 6, _ | 7, _ => rfl

/-- Bits past the last whole byte are discarded (R74 step 8). -/
theorem bytesOfBits_flatMap_bits8_append (bs : List Byte) (rest : List Bool) :
    bytesOfBits bs.length (bs.flatMap bits8 ++ rest) = bs := by
  induction bs with
  | nil => rfl
  | cons b bs ih =>
    rw [List.flatMap_cons, List.append_assoc, List.length_cons, bytesOfBits, byteOfBits_bits8_append]
    exact congrArg (b :: ·) ih

/-! ### Texts that spell values -/

theorem base32Char_ne_padChar (v : BitVec 5) : base32Char v ≠ padChar := by
  revert v
  decide

theorem base32Vals_map_base32Char (vs : List (BitVec 5)) : base32Vals (vs.map base32Char) = some vs := by
  rw [base32Vals_eq_some_iff, List.map_map]
  exact List.map_congr_left fun v _ => base32Val_base32Char v

theorem padCount_append_replicate (vs : List (BitVec 5)) (p : Nat) :
    padCount (vs.map base32Char ++ List.replicate p padChar) = p := by
  have hchars : (vs.map base32Char).reverse.takeWhile (· == padChar) = [] := by
    rw [← List.map_reverse]
    cases vs.reverse with
    | nil => rfl
    | cons v _ => simp [base32Char_ne_padChar v]
  have hpads : ∀ c ∈ List.replicate p padChar, (c == padChar) = true := fun c hc =>
    beq_iff_eq.2 (List.eq_of_mem_replicate hc)
  rw [padCount, List.reverse_append, List.reverse_replicate, List.takeWhile_append_of_pos hpads, hchars,
    List.append_nil, List.length_replicate]

/-- The text spells the bytes: in whole groups with a legal number of pads, the bits of its values begin with the bytes' bits
and end within the next byte. -/
def Spells (text bytes : List Byte) : Prop :=
  ∃ (vs : List (BitVec 5)) (p : Nat) (rest : List Bool),
    text = vs.map base32Char ++ List.replicate p padChar ∧ p ∈ [0, 1, 3, 4, 6] ∧
    vs.length + p = 8 * ((bytes.length + 4) / 5) ∧ 5 * vs.length / 8 = bytes.length ∧
    vs.flatMap bits5 = bytes.flatMap bits8 ++ rest

theorem Spells.length_eq {text bytes : List Byte} (h : Spells text bytes) : text.length = 8 * ((bytes.length + 4) / 5) := by
  obtain ⟨vs, p, rest, rfl, -, hlen, -⟩ := h
  simpa using hlen

theorem Spells.dec32_eq {text bytes : List Byte} (h : Spells text bytes) : dec32 text = some bytes := by
  have hgroups := h.length_eq
  obtain ⟨vs, p, rest, rfl, hp, -, hbytes, hbits⟩ := h
  have htake : (vs.map base32Char ++ List.replicate p padChar).take
      ((vs.map base32Char ++ List.replicate p padChar).length - p) = vs.map base32Char :=
    List.take_left' (by simp)
  rw [dec32_eq_some_iff, padCount_append_replicate, htake]
  refine ⟨by omega, hp, vs, base32Vals_map_base32Char vs, ?_⟩
  rw [packVals, hbytes, hbits, bytesOfBits_flatMap_bits8_append]

/-! ### The encoder -/

/-- The values of the 8 characters of a group (R76). -/
def groupVals (b0 b1 b2 b3 b4 : Byte) : List (BitVec 5) :=
  let g : BitVec 40 := (((b0 ++ b1) ++ b2) ++ b3) ++ b4
  [g.extractLsb' 35 5, g.extractLsb' 30 5, g.extractLsb' 25 5, g.extractLsb' 20 5, g.extractLsb' 15 5,
   g.extractLsb' 10 5, g.extractLsb' 5 5, g.extractLsb' 0 5]

theorem encodeGroup_eq (b0 b1 b2 b3 b4 : Byte) :
    encodeGroup b0 b1 b2 b3 b4 = (groupVals b0 b1 b2 b3 b4).map base32Char := rfl

theorem padGroup_encodeGroup (c : Nat) (b0 b1 b2 b3 b4 : Byte) :
    padGroup c (encodeGroup b0 b1 b2 b3 b4) =
      ((groupVals b0 b1 b2 b3 b4).take c).map base32Char ++ List.replicate (8 - c) padChar := by
  rw [padGroup, encodeGroup_eq, List.map_take]

/-- The eight values of a group have the bits of its five bytes. -/
theorem flatMap_bits5_groupVals (b0 b1 b2 b3 b4 : Byte) :
    (groupVals b0 b1 b2 b3 b4).flatMap bits5 = [b0, b1, b2, b3, b4].flatMap bits8 := by
  simp only [groupVals, bits5, bits8, ← BitVec.getLsbD_eq_getElem, List.flatMap_cons, List.flatMap_nil, List.cons_append,
    List.nil_append, BitVec.getLsbD_extractLsb', BitVec.getLsbD_append]
  simp

/-- A whole group in front (R76). -/
theorem Spells.group {text bytes : List Byte} (h : Spells text bytes) (b0 b1 b2 b3 b4 : Byte) :
    Spells (encodeGroup b0 b1 b2 b3 b4 ++ text) (b0 :: b1 :: b2 :: b3 :: b4 :: bytes) := by
  obtain ⟨vs, p, rest, rfl, hp, hlen, hbytes, hbits⟩ := h
  have hgroup : (groupVals b0 b1 b2 b3 b4).length = 8 := rfl
  refine ⟨groupVals b0 b1 b2 b3 b4 ++ vs, p, rest, ?_, hp, ?_, ?_, ?_⟩
  · rw [encodeGroup_eq, List.map_append, List.append_assoc]
  · simp only [List.length_append, List.length_cons, hgroup]
    omega
  · simp only [List.length_append, List.length_cons, hgroup]
    omega
  · rw [List.flatMap_append, flatMap_bits5_groupVals, hbits, ← List.append_assoc, ← List.flatMap_append]
    rfl

/-- The first `c` characters of a group spell the bytes whose bits its first `5c` bits begin with (R76). -/
theorem spells_padGroup {b0 b1 b2 b3 b4 : Byte} {bytes : List Byte} {c n : Nat} {rest : List Bool} (hn : bytes.length = n)
    (hc : c ≤ 8 ∧ 8 - c ∈ [0, 1, 3, 4, 6] ∧ (n + 4) / 5 = 1 ∧ 5 * c / 8 = n)
    (hbits : ((groupVals b0 b1 b2 b3 b4).take c).flatMap bits5 = bytes.flatMap bits8 ++ rest) :
    Spells (padGroup c (encodeGroup b0 b1 b2 b3 b4)) bytes := by
  obtain ⟨hle, hp, hgroup, hbytes⟩ := hc
  have hlen : ((groupVals b0 b1 b2 b3 b4).take c).length = c := List.length_take_of_le hle
  exact ⟨_, 8 - c, rest, padGroup_encodeGroup c b0 b1 b2 b3 b4, hp, by omega, by omega, hbits⟩

/-- A short last group spells its bytes and, in the bits that its characters have over, the zeros it is filled with. -/
theorem spells_enc32 : ∀ bytes, Spells (enc32 bytes) bytes
  | [] => ⟨[], 0, [], rfl, by decide, rfl, rfl, rfl⟩
  | [b0] => spells_padGroup (n := 1) (rest := List.replicate 2 false) rfl (by decide)
      (congrArg (List.take 10) (flatMap_bits5_groupVals b0 0 0 0 0))
  | [b0, b1] => spells_padGroup (n := 2) (rest := List.replicate 4 false) rfl (by decide)
      (congrArg (List.take 20) (flatMap_bits5_groupVals b0 b1 0 0 0))
  | [b0, b1, b2] => spells_padGroup (n := 3) (rest := List.replicate 1 false) rfl (by decide)
      (congrArg (List.take 25) (flatMap_bits5_groupVals b0 b1 b2 0 0))
  | [b0, b1, b2, b3] => spells_padGroup (n := 4) (rest := List.replicate 3 false) rfl (by decide)
      (congrArg (List.take 35) (flatMap_bits5_groupVals b0 b1 b2 b3 0))
  | b0 :: b1 :: b2 :: b3 :: b4 :: bytes => (spells_enc32 bytes).group b0 b1 b2 b3 b4

/-! ### The obligation -/

/-- Settles O46: the encoder's text spells the bytes, and a text decodes to the bytes it spells. -/
theorem dec32UndoesEnc32 : Obligations.Dec32UndoesEnc32 :=
  fun bytes => ⟨(spells_enc32 bytes).dec32_eq, (spells_enc32 bytes).length_eq⟩

end Sys2Proof.Machine

/-! PROOFS. `LOADKEY` (spec/40_secret_load.md section 4, law (b); spec/30_encoding.md rule R67): the text grows by one character
with each `PUTC`, fits the buffer, and `CONSTRUCT` decodes it. -/

namespace Sys2Proof

/-- The encoding of a key that fits the store fits the text buffer, because the capacity is a multiple of 8 (R4). -/
theorem Params.enc32_length_le (p : Params) {n : Nat} (h : n ≤ p.kmax) : 8 * ((n + 4) / 5) ≤ p.tmax := by
  have hlegal := p.legal
  simp only [legalTMAX, Bool.and_eq_true, beq_iff_eq] at hlegal
  obtain ⟨⟨h8, -⟩, -⟩ := hlegal
  unfold Params.kmax at h
  omega

end Sys2Proof

namespace Sys2Proof.Machine

/-- While a key is loaded into the block `s`: the core is idle, the buffer holds the text so far and has lost nothing, and the
parameters and the staged configuration are those of `s`. -/
structure Loading (s : State) (text : List Byte) (t : State) : Prop where
  idle : t.busy = false
  txt : t.txt = text
  kept : t.tovf = false
  params : t.params = s.params
  cfgDigits : t.cfgDigits = s.cfgDigits
  cfgPeriod : t.cfgPeriod = s.cfgPeriod

section
variable {s t : State} {text : List Byte} (polls : Nat)

theorem runs_clrt (hidle : s.busy = false) : ∃ t, Runs (commandWaitTurns .clrt polls) s t ∧ Loading s [] t := by
  obtain ⟨e, hrun⟩ := runs_commandWait (i := .clrt) hidle rfl polls
  exact ⟨_, hrun, rfl, rfl, rfl, rfl, rfl, rfl⟩

theorem Loading.putc (h : Loading s text t) {c : Byte} (hroom : (text ++ [c]).length ≤ s.params.tmax) :
    ∃ u, Runs (commandWaitTurns (.putc c) polls) t u ∧ Loading s (text ++ [c]) u := by
  have hlt : t.tlen < t.params.tmax := by
    rw [State.tlen, h.txt, h.params]
    simpa using hroom
  obtain ⟨e, hrun⟩ := runs_commandWait (i := .putc c) h.idle
    (exec_putc_of_lt c (s := accept (encode (.putc c)) t) hlt) polls
  exact ⟨_, hrun, rfl, congrArg (· ++ [c]) h.txt, h.kept, h.params, h.cfgDigits, h.cfgPeriod⟩

theorem Loading.puts (h : Loading s text t) {chars : List Byte} (hroom : (text ++ chars).length ≤ s.params.tmax) :
    ∃ u, Runs (chars.flatMap fun c => commandWaitTurns (.putc c) polls) t u ∧ Loading s (text ++ chars) u := by
  induction chars generalizing t text with
  | nil => exact ⟨t, .nil t, (List.append_nil text).symm ▸ h⟩
  | cons c chars ih =>
    rw [List.append_cons] at hroom ⊢
    obtain ⟨u, hrun, hu⟩ := h.putc polls ((List.length_append ▸ Nat.le_add_right ..).trans hroom)
    obtain ⟨w, hrun', hw⟩ := ih hu hroom
    exact ⟨w, hrun.append hrun', hw⟩

theorem Loading.construct (h : Loading s text t) {key : List Byte} (hd : dec32 text = some key) :
    ∃ u, Runs (commandWaitTurns .construct polls) t u ∧ u.valid = true ∧ u.secret = key ∧ u.engDigits = s.cfgDigits ∧
      u.engPeriod = s.cfgPeriod ∧ u.err = 0 ∧ u.busy = false ∧ u.txt = [] := by
  have hdecode : decodeText (accept (encode .construct) t) = .ok key := decodeText_of_dec32_some h.kept (h.txt ▸ hd)
  obtain ⟨e, hrun⟩ := runs_commandWait (i := .construct) h.idle (exec_construct_of_ok hdecode) polls
  exact ⟨_, hrun, rfl, rfl, h.cfgDigits, h.cfgPeriod, rfl, rfl, rfl⟩

end

/-- Settles O47. -/
theorem loadKeyInstallsTheKey : Obligations.LoadKeyInstallsTheKey := by
  intro s key polls hidle hkey
  obtain ⟨hdec, hlen⟩ := dec32UndoesEnc32 key
  have hroom : ([] ++ enc32 key).length ≤ s.params.tmax := by
    rw [List.nil_append, hlen]
    exact s.params.enc32_length_le hkey
  obtain ⟨t, hclrt, ht⟩ := runs_clrt polls hidle
  obtain ⟨u, hputs, hu⟩ := ht.puts polls hroom
  obtain ⟨w, hconstruct, hvalid, hsecret, hdigits, hperiod, herr, hbusy, htxt⟩ := hu.construct polls hdec
  exact ⟨_, ((hclrt.append hputs).append hconstruct).run_eq, hvalid, hsecret, hdigits, hperiod, herr, hbusy, htxt, rfl⟩

end Sys2Proof.Machine
